-- ==== Sys2Proof/Word.lean ====
section
/-! DEFINITION. Words, sets and numbers of the part: what the spec treats as bits is a bit vector, what it numbers is a `Fin`. -/

namespace Sys2Proof

/-- One byte on the wire (spec 10.1). -/
abbrev Byte := BitVec 8

/-- Host ports H0 to H3. -/
abbrev PortId := Fin 4
/-- Axes AX0 to AX5. -/
abbrev AxisId := Fin 6
/-- Trigger lines TRIG0 to TRIG7. -/
abbrev LineId := Fin 8
/-- Trigger channels TC0 to TC7. -/
abbrev ChannelId := Fin 8
/-- Compare entries CE0 to CE23. -/
abbrev EntryId := Fin 24
/-- Gates G0 to G7. -/
abbrev GateId := Fin 8

/-- The tick count, 48 bits (R116). -/
abbrev Tick := BitVec 48
/-- The epoch, 8 bits (R116). -/
abbrev Epoch := BitVec 8
/-- A sequence number, 32 bits (R6). -/
abbrev Seq := BitVec 32
/-- A turns count, 16 bits, wrapping (R70). -/
abbrev Turns := BitVec 16

/-- A set of axes, bit n for AXn (R177). -/
abbrev AxisSet := BitVec 6
/-- A set of channels, bit n for TCn (R177). -/
abbrev ChannelSet := BitVec 8
/-- A set of entries, bit n for CEn (R177). -/
abbrev EntrySet := BitVec 24
/-- A set of event kinds, bit k - 1 for the kind of order k (R151, R177). -/
abbrev KindSet := BitVec 11
/-- A set of claimable resources, bit i for the i-th in the order of WHO_OWNS ALL (R148, R177). -/
abbrev ResourceSet := BitVec 47

/-- A fixed number of like things. -/
abbrev Bank (α : Type) (n : Nat) := Vector α n

end Sys2Proof
end

