-- ==== Sys2Proof/Syntax.lean ====
section
/-! DEFINITION. The commands of the part: one constructor per row of spec/opcode_table.json. -/

namespace Sys2Proof

/-- The level of a field line or of the MARK line. -/
inductive Level where
  | low
  | high
  deriving DecidableEq, Repr

/-- What requested a capture (R2). -/
inductive Cause where
  | trigger (c : ChannelId) (burstIndex : Nat)
  | mark
  | host (p : PortId)
  deriving DecidableEq, Repr

/-- Which of the captures of this tick that are under way reach the log with a command, and in which order: the spec leaves it
open (R9, log entry 3). Those named by `first` come first, in its order, and the others follow as they were requested; the last
`later` of them stay under way, for a later command of the tick. -/
structure LogOrder where
  first : List Cause
  later : Nat
  deriving DecidableEq, Repr

/-- All the captures under way reach the log, as they were requested. -/
def LogOrder.asRequested : LogOrder := { first := [], later := 0 }

/-- The two orders of a happening at a source. `events`: the order in which the channels take their trigger events; those not named
follow in ascending order (R63, log entry 3). `log`: the order in which the captures reach the log. -/
structure ChannelOrder where
  events : List ChannelId
  log : LogOrder
  deriving DecidableEq, Repr

/-- The channels ascending, the captures as they were requested. -/
def ChannelOrder.ascending : ChannelOrder := { events := [], log := .asRequested }

/-- What one AXIS_LEVEL_CHANGE shows the axis filter in this tick (R71). A and B are decoded together (R72); Z goes to the
trigger unit. `entries` gives the order in which the entries that the offer reaches are taken, those not named following in
ascending order; `channels` gives the orders of the channels and of the captures (the spec leaves them open: R9, R63, R105; log
entry 3). -/
inductive AxisInput where
  | ab (a b : Level) (entries : List EntryId) (channels : ChannelOrder)
  | z (z : Level) (channels : ChannelOrder)
  deriving DecidableEq, Repr

/-- The order in which captures reach the log with an AXIS_LEVEL_CHANGE. -/
def AxisInput.log : AxisInput → LogOrder
  | .ab _ _ _ channels => channels.log
  | .z _ channels => channels.log

/-- What one BURST_STEP names: the channel, and the order in which captures reach the log with it (R9, R54). -/
structure BurstInput where
  channel : ChannelId
  log : LogOrder
  deriving DecidableEq, Repr

/-- The commands, in the order of spec/opcode_table.json. A request command names the port, the tag and the payload bytes of
the request that the executor takes (R171, R172, R179). -/
inductive Instr where
  | pinReset
  | portUnblock (p : PortId)
  | transactionBegin (p : PortId)
  | statusByteShifted (p : PortId) (received : Byte)
  | responseDelivered (p : PortId) (received : List Byte)
  | transactionEnd (p : PortId) (received : List Byte)
  | unknownCommand (p : PortId) (code tag : Byte) (payload : List Byte)
  | openSession (p : PortId) (tag : Byte) (payload : List Byte)
  | closeSession (p : PortId) (tag : Byte) (payload : List Byte)
  | ping (p : PortId) (tag : Byte) (payload : List Byte)
  | deviceInfo (p : PortId) (tag : Byte) (payload : List Byte)
  | deviceReset (p : PortId) (tag : Byte) (payload : List Byte)
  | claim (p : PortId) (tag : Byte) (payload : List Byte)
  | release (p : PortId) (tag : Byte) (payload : List Byte)
  | whoOwns (p : PortId) (tag : Byte) (payload : List Byte)
  | sessionExpiry (p : PortId)
  | axisSetup (p : PortId) (tag : Byte) (payload : List Byte)
  | axisSpan (p : PortId) (tag : Byte) (payload : List Byte)
  | axisPreset (p : PortId) (tag : Byte) (payload : List Byte)
  | axisClearFault (p : PortId) (tag : Byte) (payload : List Byte)
  | axisRead (p : PortId) (tag : Byte) (payload : List Byte)
  | snap (p : PortId) (tag : Byte) (payload : List Byte)
  | axisLevelChange (n : AxisId) (input : AxisInput)
  | gatePulseEnd (g : GateId)
  | cmpSetup (p : PortId) (tag : Byte) (payload : List Byte)
  | cmpEnable (p : PortId) (tag : Byte) (payload : List Byte)
  | cmpDisable (p : PortId) (tag : Byte) (payload : List Byte)
  | cmpStatus (p : PortId) (tag : Byte) (payload : List Byte)
  | gateSetup (p : PortId) (tag : Byte) (payload : List Byte)
  | gateSet (p : PortId) (tag : Byte) (payload : List Byte)
  | gateStatus (p : PortId) (tag : Byte) (payload : List Byte)
  | trigLevelChange (l : LineId) (raw : Level) (channels : ChannelOrder)
  | burstStep (step : BurstInput)
  | trigSetup (p : PortId) (tag : Byte) (payload : List Byte)
  | trigLineFilter (p : PortId) (tag : Byte) (payload : List Byte)
  | trigArm (p : PortId) (tag : Byte) (payload : List Byte)
  | trigDisarm (p : PortId) (tag : Byte) (payload : List Byte)
  | trigFire (p : PortId) (tag : Byte) (payload : List Byte)
  | trigStatus (p : PortId) (tag : Byte) (payload : List Byte)
  | logSubscribe (p : PortId) (tag : Byte) (payload : List Byte)
  | logUnsubscribe (p : PortId) (tag : Byte) (payload : List Byte)
  | logFetch (p : PortId) (tag : Byte) (payload : List Byte)
  | logRelease (p : PortId) (tag : Byte) (payload : List Byte)
  | logStatus (p : PortId) (tag : Byte) (payload : List Byte)
  | timeRead (p : PortId) (tag : Byte) (payload : List Byte)
  | alignArm (p : PortId) (tag : Byte) (payload : List Byte)
  | alignCancel (p : PortId) (tag : Byte) (payload : List Byte)
  | markSetup (p : PortId) (tag : Byte) (payload : List Byte)
  | markPulse (p : PortId) (tag : Byte) (payload : List Byte)
  | markPulseEnd
  | recognisedEdge (events : List ChannelId) (log : LogOrder)
  | recognizerRearm
  | eventMask (p : PortId) (tag : Byte) (payload : List Byte)
  | eventRead (p : PortId) (tag : Byte) (payload : List Byte)
  | eventAck (p : PortId) (tag : Byte) (payload : List Byte)
  | tickCountAdvance
  | markLineChange (outside : Level)
  deriving DecidableEq, Repr

end Sys2Proof
end

