-- ==== Sys2Proof/Config.lean ====
section
/-! DEFINITION. The fixed figures of the part (spec 1.10, R141, R182), every one stated by the spec, and the free values. -/

namespace Sys2Proof.Config

/-- Records the capture log holds (R5). -/
def logCapacity : Nat := 256
/-- Outstanding requests and responses of a port (R162). -/
def maxOutstanding : Nat := 4
/-- Longest request payload (R166). -/
def maxRequestPayload : Nat := 48
/-- Longest response payload (R165). -/
def maxResponsePayload : Nat := 248
/-- Bytes of record space in a LOG_FETCH response (R35). -/
def fetchRecordSpace : Nat := 236
/-- Ticks the part's own MARK pulse is driven (R126). -/
def markPulseTicks : Nat := 8
/-- Equal samples of MARK that make an edge, or re-arm the recognizer (R123). -/
def markSamples : Nat := 4
/-- Ticks in one millisecond of idle time (R135). -/
def ticksPerMillisecond : Nat := 10000
/-- The greatest count of a linear axis (R70). -/
def linearMax : Int := 549755813887
/-- The least count of a linear axis (R70). -/
def linearMin : Int := -549755813888
/-- The greatest span (R70). -/
def maxSpan : Nat := 2147483648
/-- The NARROW range (R85). -/
def narrowMax : Int := 2147483647
/-- The NARROW range (R85). -/
def narrowMin : Int := -2147483648
/-- Limit of the 16-bit saturating counters (R15, R25, R43). -/
def counterLimit : Nat := 65535
/-- Limit of the 8-bit saturating counters (R70, R92, R151). -/
def countLimit : Nat := 255
/-- Part code and revision (R141). -/
def partCode : Nat := 6404
/-- Revision code (R141). -/
def revision : Nat := 1

/-- A free value: how many bytes of the chosen response a host's clock has begun when the discard of that number is taken (R170).
Nothing constrains it: no command of the table tells the position of the clock inside a response (log entry 26). -/
opaque begunBytes : Nat → Nat

/-- A free value: bits 7 to 2 of the count byte of an AXIS_READ taken at this tick and epoch of this axis. Nothing constrains
them: R183 gives bits 0 and 1 of that byte alone (log entry 31). -/
opaque countByteRest : Tick → Epoch → AxisId → BitVec 6

/-- A free value: the CLIPPED bit beside a WIDE count of this axis, in a response made at this tick and epoch. Nothing constrains
it: of WIDE, R85 says that CLIPPED is not part of it, and no rule states the bit's value (log entry 32). -/
opaque wideClipped : Tick → Epoch → AxisId → Bool

/-- The command codes of section 10.4 (R182 to R188), every one that names a request. -/
def requestCodes : List Byte :=
  [0x01, 0x02, 0x03, 0x04, 0x05, 0x10, 0x11, 0x12, 0x20, 0x21, 0x22, 0x23, 0x24, 0x25, 0x30, 0x31, 0x32, 0x33, 0x34,
   0x40, 0x41, 0x42, 0x43, 0x44, 0x45, 0x50, 0x51, 0x52, 0x53, 0x54, 0x60, 0x61, 0x62, 0x63, 0x64, 0x65, 0x66,
   0x70, 0x71, 0x72]

end Sys2Proof.Config
end

