-- ==== Sys2Proof/WellFormed.lean ====
section
/-! DEFINITION. Which commands are well formed: what a command of its row can carry. `exec` answers for the others too. -/

namespace Sys2Proof

/-- An order operand names each member at most once. -/
def orderOk {α : Type} [DecidableEq α] (order : List α) : Bool := decide order.Nodup

/-- The order of the captures names each at most once, and leaves at most the 17 captures under way that a tick can hold: the MARK
capture, and of each channel a last burst step and a firing (R9, R44, R54, R124). -/
def LogOrder.wellFormed (order : LogOrder) : Bool := orderOk order.first && decide (order.later ≤ 17)

/-- The order of the channels names each at most once. -/
def ChannelOrder.wellFormed (order : ChannelOrder) : Bool := orderOk order.events && order.log.wellFormed

/-- A request's payload fits a frame (R166). -/
def payloadOk (payload : List Byte) : Bool := decide (payload.length ≤ Config.maxRequestPayload)

/-- A command code of UNKNOWN_COMMAND names no request and is not the no-request code (R173, R179). -/
def unknownCodeOk (code : Byte) : Bool := code != 0 && !Config.requestCodes.contains code

/-- The well-formed input of an axis: its orders name each member at most once. -/
def AxisInput.wellFormed : AxisInput → Bool
  | .ab _ _ entries channels => orderOk entries && channels.wellFormed
  | .z _ channels => channels.wellFormed

/-- The well-formed commands. -/
def Instr.wellFormed : Instr → Bool
  | .pinReset => true
  | .portUnblock _ => true
  | .transactionBegin _ => true
  | .statusByteShifted _ _ => true
  | .responseDelivered _ received => decide (received ≠ [])
  | .transactionEnd _ _ => true
  | .unknownCommand _ code _ payload => unknownCodeOk code && payloadOk payload
  | .openSession _ _ payload => payloadOk payload
  | .closeSession _ _ payload => payloadOk payload
  | .ping _ _ payload => payloadOk payload
  | .deviceInfo _ _ payload => payloadOk payload
  | .deviceReset _ _ payload => payloadOk payload
  | .claim _ _ payload => payloadOk payload
  | .release _ _ payload => payloadOk payload
  | .whoOwns _ _ payload => payloadOk payload
  | .sessionExpiry _ => true
  | .axisSetup _ _ payload => payloadOk payload
  | .axisSpan _ _ payload => payloadOk payload
  | .axisPreset _ _ payload => payloadOk payload
  | .axisClearFault _ _ payload => payloadOk payload
  | .axisRead _ _ payload => payloadOk payload
  | .snap _ _ payload => payloadOk payload
  | .axisLevelChange _ input => input.wellFormed
  | .gatePulseEnd _ => true
  | .cmpSetup _ _ payload => payloadOk payload
  | .cmpEnable _ _ payload => payloadOk payload
  | .cmpDisable _ _ payload => payloadOk payload
  | .cmpStatus _ _ payload => payloadOk payload
  | .gateSetup _ _ payload => payloadOk payload
  | .gateSet _ _ payload => payloadOk payload
  | .gateStatus _ _ payload => payloadOk payload
  | .trigLevelChange _ _ channels => channels.wellFormed
  | .burstStep step => step.log.wellFormed
  | .trigSetup _ _ payload => payloadOk payload
  | .trigLineFilter _ _ payload => payloadOk payload
  | .trigArm _ _ payload => payloadOk payload
  | .trigDisarm _ _ payload => payloadOk payload
  | .trigFire _ _ payload => payloadOk payload
  | .trigStatus _ _ payload => payloadOk payload
  | .logSubscribe _ _ payload => payloadOk payload
  | .logUnsubscribe _ _ payload => payloadOk payload
  | .logFetch _ _ payload => payloadOk payload
  | .logRelease _ _ payload => payloadOk payload
  | .logStatus _ _ payload => payloadOk payload
  | .timeRead _ _ payload => payloadOk payload
  | .alignArm _ _ payload => payloadOk payload
  | .alignCancel _ _ payload => payloadOk payload
  | .markSetup _ _ payload => payloadOk payload
  | .markPulse _ _ payload => payloadOk payload
  | .markPulseEnd => true
  | .recognisedEdge events log => orderOk events && log.wellFormed
  | .recognizerRearm => true
  | .eventMask _ _ payload => payloadOk payload
  | .eventRead _ _ payload => payloadOk payload
  | .eventAck _ _ payload => payloadOk payload
  | .tickCountAdvance => true
  | .markLineChange _ => true

end Sys2Proof
end

