-- ==== Sys2Proof/Decode.lean ====
section
/-! DEFINITION. The decoder of table words. No row of spec/opcode_table.json gives bits (the part is a block without an
instruction word), so no word spells a command. -/

namespace Sys2Proof

/-- The command that a word spells by the table's bits: none, for every word, since no row has bits. The framed requests
of R179 are not table words; they come in through TRANSACTION_END and are read in Machine/Operands.lean. -/
def decodeTableWord (_nbits _w : Nat) : Option Instr := none

end Sys2Proof
end

