-- ==== Sys2Proof/Machine/State.lean ====
section
/-! DEFINITION. The state of the part as plain data, the reset state, and the reasons a step can stop. -/

namespace Sys2Proof.Machine

/-- Reasons a step faults: none. Every happening the spec describes ends in a next state (spec R174: errors are result codes,
events, status flags and the axis state), so nobody raises a fault. Safe. -/
inductive Fault where
  deriving DecidableEq, Repr

/-- Reasons a step is refused. -/
inductive Refusal where
  /-- Raised by an arm of `exec` for a command without a meaning: no arm raises it in this model. Safe. -/
  | notModelled (mnemonic : String)
  deriving DecidableEq, Repr

/-! ### Names of resources, results and events -/

/-- A claimable resource (R144). -/
inductive Resource where
  | axis (n : AxisId)
  | channel (n : ChannelId)
  | entry (n : EntryId)
  | gate (n : GateId)
  | mark
  deriving DecidableEq, Repr

/-- The 14 result codes (R174). -/
inductive ResultCode where
  | ok | unknown | badLength | badValue | outOfRange | noSession | haveSession | rankInUse | notPermitted | notOwner | held
  | wrongState | notSubscribed | markBusy
  deriving DecidableEq, Repr

/-- One raising of an event, with the resource it names (R151, R152). -/
inductive Event where
  | logLevel | logDrop | logLapped
  | trigFired (c : ChannelId)
  | trigIgnored (c : ChannelId)
  | burstEnd (c : ChannelId) (cut : Bool)
  | cmpHit (e : EntryId)
  | axisFault (n : AxisId)
  | claimLost (r : Resource)
  | markSeen | aligned
  deriving DecidableEq, Repr

/-- The eleven event kinds, in the order of R151. -/
inductive EventKind where
  | logLevel | logDrop | logLapped | trigFired | trigIgnored | burstEnd | cmpHit | axisFault | claimLost | markSeen | aligned
  deriving DecidableEq, Repr

/-! ### Timebase and MARK unit (chapter 6) -/

/-- A stamp: a tick count together with its epoch (spec 1.7). -/
structure Stamp where
  tick : Tick
  epoch : Epoch
  deriving DecidableEq, Repr

inductive AlignState where
  | idle | armed
  deriving DecidableEq, Repr

/-- The timebase (R116). -/
structure Timebase where
  tick : Tick
  epoch : Epoch
  align : AlignState
  preload : Tick
  deriving DecidableEq, Repr

inductive DriveState where
  | idle | driving
  deriving DecidableEq, Repr

inductive Recognizer where
  | ready | held
  deriving DecidableEq, Repr

/-- Whether the MARK sample of this tick has been taken (the model's own, log entry 10). `rearmed`: it was taken high by
RECOGNIZER_REARM and is taken again if a pulse of this part starts in the same tick (R122). `pulseEdge`: it gave an edge on a low
that this part's own pulse alone held, so the pulse is not released in this tick (R131). -/
inductive SampleMark where
  | notYet | taken | rearmed | pulseEdge
  deriving DecidableEq, Repr

/-- The MARK unit (R122, R123, R125, R126). `outside` is the level the other parties leave on the line. -/
structure MarkUnit where
  captureSet : AxisSet
  notify : Bool
  drive : DriveState
  remaining : Nat
  /-- The model's own: the count that ends the pulse is owed in this tick (R105, R126). -/
  endDue : Bool
  outside : Level
  recognizer : Recognizer
  lowRun : Nat
  highRun : Nat
  /-- The model's own: this tick's sample. -/
  sampled : SampleMark
  deriving DecidableEq, Repr

/-! ### Axis unit and trigger lines (chapters 3 and 4) -/

/-- A filtered input line (R45, R71): the raw pin, the filtered level, the samples counted toward a new level, and whether the
first sample after pin reset has been taken. -/
structure FilteredLine where
  raw : Level
  level : Level
  run : Nat
  primed : Bool
  deriving DecidableEq, Repr

inductive DecodeMode where
  | off | quad1 | quad2 | quad4 | pulseDir | upDown
  deriving DecidableEq, Repr

inductive AxisState where
  | off | counting | faulted
  deriving DecidableEq, Repr

inductive FaultCause where
  | none | phase | overrange
  deriving DecidableEq, Repr

/-- One axis (R70). -/
structure Axis where
  mode : DecodeMode
  invert : Bool
  filter : Nat
  /-- The model's own: the filter value that judges the samples of this tick, the one of the tick's beginning (R71, R89; log entry
  34). -/
  sampleFilter : Nat
  span : Nat
  state : AxisState
  cause : FaultCause
  count : Int
  turns : Turns
  phaseErrors : Nat
  a : FilteredLine
  b : FilteredLine
  z : FilteredLine
  /-- The model's own: A and B have been sampled in this tick. -/
  sampledAB : Bool
  /-- The model's own: Z has been sampled in this tick. -/
  sampledZ : Bool
  deriving DecidableEq, Repr

/-- One trigger line with its filter (R43, R45, R46). -/
structure TrigLine where
  filter : Nat
  /-- The model's own: the filter value that judges the sample of this tick, the one of the tick's beginning (R45, log entry 34). -/
  sampleFilter : Nat
  line : FilteredLine
  /-- The model's own: the line has been sampled in this tick. -/
  sampled : Bool
  deriving DecidableEq, Repr

/-- The source of a channel (R43). -/
inductive Source where
  | line (l : LineId)
  | index (n : AxisId)
  | mark
  | entry (e : EntryId)
  | host
  deriving DecidableEq, Repr

inductive Edge where
  | rising | falling | both
  deriving DecidableEq, Repr

inductive ArmMode where
  | once | every
  deriving DecidableEq, Repr

inductive ChannelState where
  | disarmed | waiting | armed | bursting | spent
  deriving DecidableEq, Repr

/-- The configuration of a channel (R43). -/
structure ChannelConfig where
  source : Source
  edge : Edge
  axes : AxisSet
  mode : ArmMode
  burstCount : Nat
  interval : Nat
  prereqs : ChannelSet
  notify : Bool
  deriving DecidableEq, Repr

/-- One trigger channel (R43). -/
structure Channel where
  config : ChannelConfig
  state : ChannelState
  outstanding : ChannelSet
  remaining : Nat
  nextIndex : Nat
  countdown : Nat
  /-- The model's own: the count that makes the next step fall due is owed in this tick (R54, R66). -/
  stepDue : Bool
  fires : BitVec 16
  ignored : Nat
  dropped : Nat
  deriving DecidableEq, Repr

/-! ### Capture log and readers (chapters 1 and 2) -/

/-- One sampled axis (R3). -/
structure ValueEntry where
  axis : AxisId
  count : Int
  turns : Option Turns
  faulted : Bool
  deriving DecidableEq, Repr

/-- A capture request as it reaches the log (R8). -/
structure Capture where
  stamp : Stamp
  cause : Cause
  values : List ValueEntry
  deriving DecidableEq, Repr

/-- A capture record (R1). -/
structure Record where
  seq : Seq
  stamp : Stamp
  cause : Cause
  values : List ValueEntry
  deriving DecidableEq, Repr

/-- The capture log (R5, R15): the records of the window, oldest first. -/
structure CaptureLog where
  records : List Record
  head : Seq
  tail : Seq
  drops : Nat
  deriving DecidableEq, Repr

inductive ReaderMode where
  | keep | lossy
  deriving DecidableEq, Repr

/-- A log reader (R25). -/
structure Reader where
  mode : ReaderMode
  cursor : Seq
  watermark : Nat
  level : Bool
  lost : Nat
  deriving DecidableEq, Repr

/-! ### Compare unit and gates (chapter 5) -/

inductive CompareKind where
  | atPoint | above | below | inside | outside
  deriving DecidableEq, Repr

/-- One compare entry (R92). -/
structure Entry where
  axis : AxisId
  kind : CompareKind
  a : Int
  b : Int
  event : Bool
  markFlag : Bool
  enabled : Bool
  met : Bool
  hits : Nat
  lastHit : Option Stamp
  suppressed : Nat
  deriving DecidableEq, Repr

inductive GateMode where
  | manual | follow | pulse
  deriving DecidableEq, Repr

inductive Polarity where
  | normal | inverted
  deriving DecidableEq, Repr

inductive Activity where
  | inactive | active
  deriving DecidableEq, Repr

/-- One gate (R106). -/
structure Gate where
  mode : GateMode
  polarity : Polarity
  sources : EntrySet
  width : Nat
  manual : Activity
  remaining : Nat
  output : Activity
  /-- The model's own: the count that ends the pulse is owed in this tick (R108, R112). -/
  endDue : Bool
  deriving DecidableEq, Repr

/-! ### Sessions, claims and event records (chapters 7 and 8) -/

/-- An event record of a kind that names resources (R151). -/
structure SetRecord (n : Nat) where
  count : Nat
  members : BitVec n
  deriving DecidableEq, Repr

/-- The BURST_END record, with its two sets (R151). -/
structure BurstRecord where
  count : Nat
  complete : ChannelSet
  cut : ChannelSet
  deriving DecidableEq, Repr

/-- The eleven event records of a session (R151); a kind without a resource field is its count. -/
structure EventRecords where
  logLevel : Nat
  logDrop : Nat
  logLapped : Nat
  trigFired : SetRecord 8
  trigIgnored : SetRecord 8
  burstEnd : BurstRecord
  cmpHit : SetRecord 24
  axisFault : SetRecord 6
  claimLost : SetRecord 47
  markSeen : Nat
  aligned : Nat
  deriving DecidableEq, Repr

/-- An open session (R132) with its reader (R25) and its event records (R151). `elapsed` is the idle timer in ticks (R135). -/
structure Session where
  rank : Fin 4
  idleLimit : BitVec 16
  elapsed : Nat
  mask : KindSet
  records : EventRecords
  reader : Option Reader
  deriving DecidableEq, Repr

/-! ### Host ports and the executor (chapter 9) -/

/-- A valid request frame, less its length and CRC (R166). -/
structure Frame where
  command : Byte
  tag : Byte
  payload : List Byte
  deriving DecidableEq, Repr

/-- A waiting request; `joinedNow` is the model's own: it joined the queue in this tick and is not taken before the next
(R171). -/
structure Waiting where
  frame : Frame
  joinedNow : Bool
  deriving DecidableEq, Repr

/-- A response (R165). -/
structure Response where
  command : Byte
  tag : Byte
  result : ResultCode
  payload : List Byte
  /-- The model's own: it answers a TIME_READ taken in this tick, and its line level stands as the tick has gone so far (R118, R122;
  log entry 14). -/
  levelOpen : Bool := false
  deriving DecidableEq, Repr

/-- The fields of a status byte (R164). -/
structure StatusByte where
  session : Bool
  expired : Bool
  frameErr : Bool
  refused : Bool
  attn : Bool
  pending : Nat
  deriving DecidableEq, Repr

/-- The transaction record (R162). -/
structure Transaction where
  status : StatusByte
  chosen : Option Response
  /-- The status byte has been shifted out whole (R164). -/
  shown : Bool
  incoming : List Byte
  /-- A response no longer chosen, and how many of its bytes it has put on the line: all of them once it is delivered (R165), those
  begun before the discard once it is discarded (R170, log entry 26). -/
  gone : Option (Response × Nat)
  deriving DecidableEq, Repr

/-- The receive state of a port (R162). -/
inductive ReceiveState where
  | blocked
  | idle
  | inTransaction (t : Transaction)
  deriving DecidableEq, Repr

/-- One host port (R162). -/
structure Port where
  receive : ReceiveState
  requests : List Waiting
  responses : List Response
  expired : Bool
  frameErr : Bool
  refused : Bool
  deriving DecidableEq, Repr

/-- The request executor (R171); `took` is the model's own: a request has been taken in this tick. -/
structure Executor where
  last : PortId
  took : Bool
  deriving DecidableEq, Repr

/-! ### The whole part -/

/-- The state of the part, and the commands that wait. `underway` holds the capture requests of this tick that have not reached the
log yet, oldest first (R9, R22; log entry 3). `discards` is the model's own: how many free values of the host's clock have
been used (log entry 26). -/
structure State where
  time : Timebase
  mark : MarkUnit
  axes : Bank Axis 6
  lines : Bank TrigLine 8
  channels : Bank Channel 8
  entries : Bank Entry 24
  gates : Bank Gate 8
  log : CaptureLog
  underway : List Capture
  sessions : Bank (Option Session) 4
  claims : Bank (Option PortId) 47
  ports : Bank Port 4
  executor : Executor
  discards : Nat
  pending : List Instr
  deriving DecidableEq, Repr

/-! ### Reset values -/

/-- A line before its first sample; the raw level and the filtered level are the model's choice (log entry 6). -/
def FilteredLine.reset : FilteredLine := { raw := .low, level := .low, run := 0, primed := false }

/-- R131. -/
def Timebase.reset : Timebase := { tick := 0, epoch := 0, align := .idle, preload := 0 }

/-- R131; `outside` is the model's choice (log entry 7). -/
def MarkUnit.reset : MarkUnit :=
  { captureSet := 0, notify := false, drive := .idle, remaining := 0, endDue := false, outside := .high,
    recognizer := .held, lowRun := 0, highRun := 0, sampled := .notYet }

/-- R91. -/
def Axis.reset : Axis :=
  { mode := .off, invert := false, filter := 0, sampleFilter := 0, span := 0, state := .off, cause := .none, count := 0,
    turns := 0, phaseErrors := 0, a := FilteredLine.reset, b := FilteredLine.reset, z := FilteredLine.reset,
    sampledAB := false, sampledZ := false }

/-- R69. -/
def TrigLine.reset : TrigLine := { filter := 0, sampleFilter := 0, line := FilteredLine.reset, sampled := false }

/-- R69. -/
def ChannelConfig.reset : ChannelConfig :=
  { source := .host, edge := .rising, axes := 0, mode := .once, burstCount := 1, interval := 1, prereqs := 0, notify := false }

/-- R69. -/
def Channel.reset : Channel :=
  { config := ChannelConfig.reset, state := .disarmed, outstanding := 0, remaining := 0, nextIndex := 0, countdown := 0,
    stepDue := false, fires := 0, ignored := 0, dropped := 0 }

/-- R22. -/
def CaptureLog.reset : CaptureLog := { records := [], head := 0, tail := 0, drops := 0 }

/-- R115. -/
def Entry.reset : Entry :=
  { axis := 0, kind := .atPoint, a := 0, b := 0, event := false, markFlag := false, enabled := false, met := false, hits := 0,
    lastHit := none, suppressed := 0 }

/-- R115. -/
def Gate.reset : Gate :=
  { mode := .manual, polarity := .normal, sources := 0, width := 1, manual := .inactive, remaining := 0,
    output := .inactive, endDue := false }

/-- R162. -/
def Port.reset : Port :=
  { receive := .blocked, requests := [], responses := [], expired := false, frameErr := false, refused := false }

/-- R171. -/
def Executor.reset : Executor := { last := 3, took := false }

/-- The part right after pin reset (R22, R69, R91, R115, R131, R132, R144, R162, R171), with no command waiting. -/
def State.reset : State :=
  { time := Timebase.reset, mark := MarkUnit.reset, axes := Vector.replicate 6 Axis.reset,
    lines := Vector.replicate 8 TrigLine.reset, channels := Vector.replicate 8 Channel.reset,
    entries := Vector.replicate 24 Entry.reset, gates := Vector.replicate 8 Gate.reset, log := CaptureLog.reset,
    underway := [],
    sessions := Vector.replicate 4 none, claims := Vector.replicate 47 none, ports := Vector.replicate 4 Port.reset,
    executor := Executor.reset, discards := 0, pending := [] }

end Sys2Proof.Machine
end

