-- ==== Sys2Proof/Machine/Bytes.lean ====
section
/-! DEFINITION. Byte order, two's complement and the CRC-8 of the wire (R167, R177). -/

namespace Sys2Proof.Machine

/-- The number that bytes spell, most significant byte first (R177). -/
def natOfBytes (bytes : List Byte) : Nat := bytes.foldl (fun acc b => acc * 256 + b.toNat) 0

/-- `n` bytes of a number, most significant byte first (R177). -/
def bytesOfNat : Nat → Nat → List Byte
  | 0, _ => []
  | n + 1, v => bytesOfNat n (v / 256) ++ [BitVec.ofNat 8 v]

/-- A 40-bit signed value as five bytes (R177). -/
def bytesOfCount (v : Int) : List Byte := bytesOfNat 5 (BitVec.ofInt 40 v).toNat

/-- A 32-bit signed value as four bytes (R177). -/
def bytesOfNarrow (v : Int) : List Byte := bytesOfNat 4 (BitVec.ofInt 32 v).toNat

/-- One byte. -/
def byteOfNat (v : Nat) : Byte := BitVec.ofNat 8 v

/-- A flag byte (R177). -/
def byteOfFlag (v : Bool) : Byte := if v then 1 else 0

/-- One bit at a place of a byte. -/
def bitAt (v : Bool) (place : Nat) : Nat := if v then 2 ^ place else 0

/-- One bit of the CRC-8 register with generator x^8 + x^2 + x + 1 (R167). -/
def crcShift (c : Byte) : Byte := if c.msb then (c <<< 1) ^^^ 0x07 else c <<< 1

/-- One byte into the CRC-8 register, most significant bit first (R167). -/
def crcByte (c b : Byte) : Byte :=
  crcShift (crcShift (crcShift (crcShift (crcShift (crcShift (crcShift (crcShift (c ^^^ b))))))))

/-- The CRC-8 of R167: start value 0, not inverted. -/
def crc8 (bytes : List Byte) : Byte := bytes.foldl crcByte 0

/-- A counter that stops at its limit and holds there (spec 1.7, "Saturating"). -/
def saturate (limit v : Nat) : Nat := if v < limit then v + 1 else v

/-- The members of `all` with those that `first` names taken first, in its order; the others follow in the order of `all`
(log entry 3). Each member of `all` stands in the result exactly once. -/
def preferred {α : Type} [DecidableEq α] : List α → List α → List α
  | [], all => all
  | x :: first, all => if x ∈ all then x :: preferred first (all.erase x) else preferred first all

end Sys2Proof.Machine
end

