-- ==== Sys2Proof/Machine/Codes.lean ====
section
/-! DEFINITION. The command codes of section 10.4 (R182 to R188), the result codes of R179 and the codes of R178. -/

namespace Sys2Proof.Machine

def codeOpen : Byte := 0x01
def codeClose : Byte := 0x02
def codePing : Byte := 0x03
def codeDeviceInfo : Byte := 0x04
def codeDeviceReset : Byte := 0x05
def codeClaim : Byte := 0x10
def codeRelease : Byte := 0x11
def codeWhoOwns : Byte := 0x12
def codeAxisSetup : Byte := 0x20
def codeAxisSpan : Byte := 0x21
def codeAxisPreset : Byte := 0x22
def codeAxisClearFault : Byte := 0x23
def codeAxisRead : Byte := 0x24
def codeSnap : Byte := 0x25
def codeTimeRead : Byte := 0x30
def codeAlignArm : Byte := 0x31
def codeAlignCancel : Byte := 0x32
def codeMarkSetup : Byte := 0x33
def codeMarkPulse : Byte := 0x34
def codeTrigSetup : Byte := 0x40
def codeTrigLineFilter : Byte := 0x41
def codeTrigArm : Byte := 0x42
def codeTrigDisarm : Byte := 0x43
def codeTrigFire : Byte := 0x44
def codeTrigStatus : Byte := 0x45
def codeLogSubscribe : Byte := 0x50
def codeLogUnsubscribe : Byte := 0x51
def codeLogFetch : Byte := 0x52
def codeLogRelease : Byte := 0x53
def codeLogStatus : Byte := 0x54
def codeCmpSetup : Byte := 0x60
def codeCmpEnable : Byte := 0x61
def codeCmpDisable : Byte := 0x62
def codeCmpStatus : Byte := 0x63
def codeGateSetup : Byte := 0x64
def codeGateSet : Byte := 0x65
def codeGateStatus : Byte := 0x66
def codeEventMask : Byte := 0x70
def codeEventRead : Byte := 0x71
def codeEventAck : Byte := 0x72

/-- The no-request code, and the filler byte (R179). -/
def noRequestCode : Byte := 0x00
/-- The filler byte (R179). -/
def filler : Byte := 0x00

/-- The result codes on the wire (R179). -/
def ResultCode.code : ResultCode → Byte
  | .ok => 0x00 | .unknown => 0x01 | .badLength => 0x02 | .badValue => 0x03 | .outOfRange => 0x04 | .noSession => 0x05
  | .haveSession => 0x06 | .rankInUse => 0x07 | .notPermitted => 0x08 | .notOwner => 0x09 | .held => 0x0A
  | .wrongState => 0x0B | .notSubscribed => 0x0C | .markBusy => 0x0D

/-! ### The enumerated fields of R178: the code sent, and the code read -/

def flag? (b : Byte) : Option Bool := if b = 0 then some false else if b = 1 then some true else none

def DecodeMode.code : DecodeMode → Byte
  | .off => 0 | .quad1 => 1 | .quad2 => 2 | .quad4 => 3 | .pulseDir => 4 | .upDown => 5
def decodeMode? (b : Byte) : Option DecodeMode :=
  if b = 0 then some .off else if b = 1 then some .quad1 else if b = 2 then some .quad2 else if b = 3 then some .quad4
  else if b = 4 then some .pulseDir else if b = 5 then some .upDown else none

def AxisState.code : AxisState → Byte
  | .off => 0 | .counting => 1 | .faulted => 2
def FaultCause.code : FaultCause → Byte
  | .none => 0 | .phase => 1 | .overrange => 2

/-- Forms of a count: true for NARROW. -/
def narrowForm? (b : Byte) : Option Bool := flag? b

def Edge.code : Edge → Byte
  | .rising => 0 | .falling => 1 | .both => 2
def edge? (b : Byte) : Option Edge :=
  if b = 0 then some .rising else if b = 1 then some .falling else if b = 2 then some .both else none

def ArmMode.code : ArmMode → Byte
  | .once => 0 | .every => 1
def armMode? (b : Byte) : Option ArmMode := if b = 0 then some .once else if b = 1 then some .every else none

def ChannelState.code : ChannelState → Byte
  | .disarmed => 0 | .waiting => 1 | .armed => 2 | .bursting => 3 | .spent => 4

/-- The kind byte of a source. -/
def Source.kindCode : Source → Byte
  | .line _ => 0 | .index _ => 1 | .mark => 2 | .entry _ => 3 | .host => 4
/-- The number byte of a source; 0 for MARK and HOST (R178). -/
def Source.numberCode : Source → Byte
  | .line l => byteOfNat l | .index n => byteOfNat n | .mark => 0 | .entry e => byteOfNat e | .host => 0

def ReaderMode.code : ReaderMode → Byte
  | .keep => 0 | .lossy => 1
def readerMode? (b : Byte) : Option ReaderMode := if b = 0 then some .keep else if b = 1 then some .lossy else none

/-- Start of a subscription: true for OLDEST. -/
def startOldest? (b : Byte) : Option Bool := flag? b

def CompareKind.code : CompareKind → Byte
  | .atPoint => 0 | .above => 1 | .below => 2 | .inside => 3 | .outside => 4
def compareKind? (b : Byte) : Option CompareKind :=
  if b = 0 then some .atPoint else if b = 1 then some .above else if b = 2 then some .below
  else if b = 3 then some .inside else if b = 4 then some .outside else none

def GateMode.code : GateMode → Byte
  | .manual => 0 | .follow => 1 | .pulse => 2
def gateMode? (b : Byte) : Option GateMode :=
  if b = 0 then some .manual else if b = 1 then some .follow else if b = 2 then some .pulse else none

def Polarity.code : Polarity → Byte
  | .normal => 0 | .inverted => 1
def polarity? (b : Byte) : Option Polarity := if b = 0 then some .normal else if b = 1 then some .inverted else none

def Activity.code : Activity → Byte
  | .inactive => 0 | .active => 1
def activity? (b : Byte) : Option Activity := if b = 0 then some .inactive else if b = 1 then some .active else none

def levelCode : Level → Byte
  | .low => 0 | .high => 1
def AlignState.code : AlignState → Byte
  | .idle => 0 | .armed => 1
def DriveState.code : DriveState → Byte
  | .idle => 0 | .driving => 1
def Recognizer.code : Recognizer → Byte
  | .ready => 0 | .held => 1

/-- Capture outcomes (R178). -/
def outcomeNotLogged : Byte := 0
def outcomeWritten : Byte := 1
def outcomeDropped : Byte := 2

/-- CLAIM qualifiers (R178). -/
def qualifierGranted : Byte := 1
def qualifierAlready : Byte := 2
def qualifierPreempted : Byte := 3

end Sys2Proof.Machine
end

