-- ==== Sys2Proof/Machine/Ops.lean ====
section
/-! DEFINITION. The named operations over the state: reading and writing one unit, owners, readers, and the filing of events. -/

namespace Sys2Proof.Machine

/-! ### Banks -/

def Bank.read {α : Type} {n : Nat} (v : Bank α n) (i : Fin n) : α := v[i.val]
def Bank.write {α : Type} {n : Nat} (v : Bank α n) (i : Fin n) (x : α) : Bank α n := v.set i.val x
def Bank.mapAll {α : Type} {n : Nat} (v : Bank α n) (f : α → α) : Bank α n :=
  Vector.mk (List.toArray (v.toArray.toList.map f)) (by simp)

/-! ### The numbers of each kind, in ascending order -/

def allPorts : List PortId := [0, 1, 2, 3]
def allAxes : List AxisId := [0, 1, 2, 3, 4, 5]
def allLines : List LineId := [0, 1, 2, 3, 4, 5, 6, 7]
def allChannels : List ChannelId := [0, 1, 2, 3, 4, 5, 6, 7]
def allGates : List GateId := [0, 1, 2, 3, 4, 5, 6, 7]
def allEntries : List EntryId := [0, 1, 2, 3, 4, 5, 6, 7, 8, 9, 10, 11, 12, 13, 14, 15, 16, 17, 18, 19, 20, 21, 22, 23]

/-- The 47 claimable resources in the order of WHO_OWNS ALL (R148). -/
def allResources : List Resource :=
  allAxes.map .axis ++ allChannels.map .channel ++ allEntries.map .entry ++ allGates.map .gate ++ [.mark]

/-- The place of a resource in the order of WHO_OWNS ALL (R148). -/
def Resource.index : Resource → Fin 47
  | .axis n => ⟨n, by omega⟩
  | .channel n => ⟨6 + n, by omega⟩
  | .entry n => ⟨14 + n, by omega⟩
  | .gate n => ⟨38 + n, by omega⟩
  | .mark => ⟨46, by omega⟩

/-! ### Sets -/

/-- Membership of number `i` in a set. -/
def inSet {n : Nat} (s : BitVec n) (i : Nat) : Bool := s.getLsbD i
/-- The set with number `i` added. -/
def withMember {n : Nat} (s : BitVec n) (i : Nat) : BitVec n := s ||| BitVec.ofNat n (2 ^ i)
/-- The set with number `i` removed. -/
def withoutMember {n : Nat} (s : BitVec n) (i : Nat) : BitVec n := s &&& ~~~(BitVec.ofNat n (2 ^ i))

/-! ### Reading and writing one unit -/

def State.axis (s : State) (n : AxisId) : Axis := Bank.read s.axes n
def State.trigLine (s : State) (l : LineId) : TrigLine := Bank.read s.lines l
def State.channel (s : State) (c : ChannelId) : Channel := Bank.read s.channels c
def State.entry (s : State) (e : EntryId) : Entry := Bank.read s.entries e
def State.gate (s : State) (g : GateId) : Gate := Bank.read s.gates g
def State.session (s : State) (p : PortId) : Option Session := Bank.read s.sessions p
def State.owner (s : State) (r : Resource) : Option PortId := Bank.read s.claims r.index
def State.port (s : State) (p : PortId) : Port := Bank.read s.ports p

def State.setTime (s : State) (t : Timebase) : State := { s with time := t }
def State.setMark (s : State) (m : MarkUnit) : State := { s with mark := m }
def State.setAxis (s : State) (n : AxisId) (x : Axis) : State := { s with axes := Bank.write s.axes n x }
def State.setLine (s : State) (l : LineId) (x : TrigLine) : State := { s with lines := Bank.write s.lines l x }
def State.setChannel (s : State) (c : ChannelId) (x : Channel) : State := { s with channels := Bank.write s.channels c x }
def State.setEntry (s : State) (e : EntryId) (x : Entry) : State := { s with entries := Bank.write s.entries e x }
def State.setGate (s : State) (g : GateId) (x : Gate) : State := { s with gates := Bank.write s.gates g x }
def State.setLog (s : State) (l : CaptureLog) : State := { s with log := l }
def State.setSession (s : State) (p : PortId) (x : Option Session) : State :=
  { s with sessions := Bank.write s.sessions p x }
def State.setOwner (s : State) (r : Resource) (o : Option PortId) : State :=
  { s with claims := Bank.write s.claims r.index o }
def State.setPort (s : State) (p : PortId) (x : Port) : State := { s with ports := Bank.write s.ports p x }
def State.setExecutor (s : State) (e : Executor) : State := { s with executor := e }

/-- A block makes a capture request: stamped and sampled, it is under way to the log within this tick (R8, R9). -/
def State.request (s : State) (c : Capture) : State := { s with underway := s.underway ++ [c] }

/-- The stamp the timebase shows (R116). -/
def State.stamp (s : State) : Stamp := { tick := s.time.tick, epoch := s.time.epoch }

/-! ### Filing events (R152, R153) -/

/-- Add one to a count that holds at 255 (R153). -/
def countUp (v : Nat) : Nat := saturate Config.countLimit v

/-- File one raising of a kind that names a resource: the count saturates, the member is added in every case (R153). -/
def SetRecord.file {n : Nat} (r : SetRecord n) (i : Nat) : SetRecord n :=
  { count := countUp r.count, members := withMember r.members i }

/-- File one BURST_END in the complete set or in the cut set (R153). -/
def BurstRecord.file (r : BurstRecord) (c : ChannelId) (cut : Bool) : BurstRecord :=
  if cut then { r with count := countUp r.count, cut := withMember r.cut c }
  else { r with count := countUp r.count, complete := withMember r.complete c }

/-- File one raising in a session's records (R153). -/
def EventRecords.file (r : EventRecords) : Event → EventRecords
  | .logLevel => { r with logLevel := countUp r.logLevel }
  | .logDrop => { r with logDrop := countUp r.logDrop }
  | .logLapped => { r with logLapped := countUp r.logLapped }
  | .trigFired c => { r with trigFired := r.trigFired.file c }
  | .trigIgnored c => { r with trigIgnored := r.trigIgnored.file c }
  | .burstEnd c cut => { r with burstEnd := r.burstEnd.file c cut }
  | .cmpHit e => { r with cmpHit := r.cmpHit.file e }
  | .axisFault n => { r with axisFault := r.axisFault.file n }
  | .claimLost res => { r with claimLost := r.claimLost.file res.index }
  | .markSeen => { r with markSeen := countUp r.markSeen }
  | .aligned => { r with aligned := countUp r.aligned }

/-- The records a new session begins with (R154). -/
def EventRecords.empty : EventRecords :=
  { logLevel := 0, logDrop := 0, logLapped := 0, trigFired := { count := 0, members := 0 },
    trigIgnored := { count := 0, members := 0 }, burstEnd := { count := 0, complete := 0, cut := 0 },
    cmpHit := { count := 0, members := 0 }, axisFault := { count := 0, members := 0 },
    claimLost := { count := 0, members := 0 }, markSeen := 0, aligned := 0 }

/-- The count of the record of a kind (R151). -/
def EventRecords.count (r : EventRecords) : EventKind → Nat
  | .logLevel => r.logLevel
  | .logDrop => r.logDrop
  | .logLapped => r.logLapped
  | .trigFired => r.trigFired.count
  | .trigIgnored => r.trigIgnored.count
  | .burstEnd => r.burstEnd.count
  | .cmpHit => r.cmpHit.count
  | .axisFault => r.axisFault.count
  | .claimLost => r.claimLost.count
  | .markSeen => r.markSeen
  | .aligned => r.aligned

/-- The kinds in the order of R151. -/
def allKinds : List EventKind :=
  [.logLevel, .logDrop, .logLapped, .trigFired, .trigIgnored, .burstEnd, .cmpHit, .axisFault, .claimLost, .markSeen,
   .aligned]

/-- The bit of a kind in a kind set: its order in R151 less one (R177). -/
def EventKind.index : EventKind → Nat
  | .logLevel => 0 | .logDrop => 1 | .logLapped => 2 | .trigFired => 3 | .trigIgnored => 4 | .burstEnd => 5
  | .cmpHit => 6 | .axisFault => 7 | .claimLost => 8 | .markSeen => 9 | .aligned => 10

/-- File one raising to the session of a port; a port in NONE files nothing (R152). -/
def State.raiseTo (s : State) (p : PortId) (ev : Event) : State :=
  match s.session p with
  | none => s
  | some ses => s.setSession p (some { ses with records := ses.records.file ev })

/-- File one raising to the owner of a resource; with no owner it is not filed (R152). -/
def State.raiseToOwner (s : State) (r : Resource) (ev : Event) : State :=
  match s.owner r with
  | none => s
  | some p => s.raiseTo p ev

/-- File one raising to every open session (R152). -/
def State.raiseToAll (s : State) (ev : Event) : State := allPorts.foldl (fun t p => t.raiseTo p ev) s

/-- The reader of a port's session, if there is one (R25). -/
def State.reader (s : State) (p : PortId) : Option Reader :=
  match s.session p with
  | none => none
  | some ses => ses.reader

/-- File one raising to every session that has a reader (R16). -/
def State.raiseToReaders (s : State) (ev : Event) : State :=
  allPorts.foldl (fun t p => if (t.reader p).isSome then t.raiseTo p ev else t) s

/-- Replace the reader of a port's session. -/
def State.setReader (s : State) (p : PortId) (r : Option Reader) : State :=
  match s.session p with
  | none => s
  | some ses => s.setSession p (some { ses with reader := r })

/-! ### Attention (R158) -/

/-- A session's attention condition: some masked-in record has a count above 0. -/
def Session.attention (ses : Session) : Bool :=
  allKinds.any (fun k => inSet ses.mask k.index && decide (0 < ses.records.count k))

/-- Whether ATNp# is asserted (driven low): never while the port is in NONE (R158). -/
def State.attention (s : State) (p : PortId) : Bool :=
  match s.session p with
  | none => false
  | some ses => ses.attention

/-- The level of pin ATNp#, active low (R158). -/
def State.attentionPin (s : State) (p : PortId) : Level := if s.attention p then .low else .high

/-! ### The idle timer (R135) -/

/-- The ticks after which an idle limit is reached (R135). -/
def Session.limitTicks (ses : Session) : Nat := ses.idleLimit.toNat * Config.ticksPerMillisecond

/-- The idle timer has reached the limit; a limit of 0 never expires (R135). -/
def Session.expiryDue (ses : Session) : Bool := decide (ses.idleLimit ≠ 0 ∧ ses.limitTicks ≤ ses.elapsed)

/-- The idle timer counts at the beginning of a tick; with a limit of 0 it stays 0 (R135). DESIGN CHOICE (log entry 27): no rule
says where in the tick a count below the limit is made. -/
def Session.tick (ses : Session) : Session := if ses.idleLimit = 0 then ses else { ses with elapsed := ses.elapsed + 1 }

/-- The idle timer reloaded (R134). -/
def Session.reloaded (ses : Session) : Session := { ses with elapsed := 0 }

/-! ### Ownership and ranks -/

/-- Whether a port's session owns a resource (R149). -/
def State.owns (s : State) (p : PortId) (r : Resource) : Bool := decide (s.owner r = some p)

/-- Whether some open session holds a rank (R133). -/
def State.rankHeld (s : State) (rank : Fin 4) : Bool :=
  allPorts.any (fun p => match s.session p with
    | none => false
    | some ses => decide (ses.rank = rank))

/-- The set of ranks held by open sessions, bit n for rank n (R133, R177). -/
def State.ranksInUse (s : State) : Nat :=
  bitAt (s.rankHeld 0) 0 + bitAt (s.rankHeld 1) 1 + bitAt (s.rankHeld 2) 2 + bitAt (s.rankHeld 3) 3

/-- The owner byte of a port's session: 80H + 4 x port + rank, 00H for no session (R177). -/
def State.ownerByte (s : State) (o : Option PortId) : Byte :=
  match o with
  | none => 0
  | some p =>
    match s.session p with
    | none => 0
    | some ses => byteOfNat (0x80 + 4 * p.val + ses.rank.val)

/-! ### Responses and the queues of a port -/

/-- Deposit one response at the tail of a port's response queue (R172). -/
def State.deposit (s : State) (p : PortId) (r : Response) : State :=
  let port := s.port p
  s.setPort p { port with responses := port.responses ++ [r] }

/-- The outstanding count of a port (R162). -/
def Port.outstanding (q : Port) : Nat := q.requests.length + q.responses.length

end Sys2Proof.Machine
end

