-- ==== Sys2Proof/Machine/Operands.lean ====
section
/-! DEFINITION. The fields of a request payload and their checks: step 4 of the validation order (R173, R177, R178). -/

namespace Sys2Proof.Machine

/-- A value, or the result code of the check that failed. -/
abbrev Checked (α : Type) := Except ResultCode α

/-- What a request answers: its OK payload and the state it leaves, or its refusal, which changes nothing (R172). -/
abbrev Answer := Checked (List Byte × State)

/-- Go on when the condition holds, otherwise refuse with the code. -/
def require (c : Bool) (code : ResultCode) : Checked Unit := if c then .ok () else .error code

/-- The byte at an offset of the payload. -/
def byteAt (payload : List Byte) (i : Nat) : Byte := payload.getD i 0

/-- An unsigned field of `n` bytes at an offset, most significant byte first (R177). -/
def natAt (payload : List Byte) (off n : Nat) : Nat := natOfBytes ((payload.drop off).take n)

/-- A 40-bit signed field at an offset (R177). -/
def countAt (payload : List Byte) (off : Nat) : Int := (BitVec.ofNat 40 (natAt payload off 5)).toInt

/-- A one-byte number field with values below `n`; above its range it is OUT_OF_RANGE (R177). -/
def idField (n : Nat) (payload : List Byte) (off : Nat) : Checked (Fin n) :=
  if h : (byteAt payload off).toNat < n then .ok ⟨(byteAt payload off).toNat, h⟩ else .error .outOfRange

/-- An enumerated field; an undefined code is BAD_VALUE (R178). -/
def codeField {α : Type} (f : Byte → Option α) (payload : List Byte) (off : Nat) : Checked α :=
  match f (byteAt payload off) with
  | some v => .ok v
  | none => .error .badValue

/-- A flag field; a byte other than 00H or 01H is BAD_VALUE (R177). -/
def flagField (payload : List Byte) (off : Nat) : Checked Bool := codeField flag? payload off

/-- A set field of `bytes` bytes over `n` members; a bit beyond the members is BAD_VALUE (R177). -/
def setField (n bytes : Nat) (payload : List Byte) (off : Nat) : Checked (BitVec n) :=
  if natAt payload off bytes < 2 ^ n then .ok (BitVec.ofNat n (natAt payload off bytes)) else .error .badValue

/-- A resource name: kind byte, then number byte checked against the kind (R145, R177). -/
def resourceField (payload : List Byte) (off : Nat) : Checked Resource :=
  let kind := byteAt payload off
  if kind = 0 then Except.map Resource.axis (idField 6 payload (off + 1))
  else if kind = 1 then Except.map Resource.channel (idField 8 payload (off + 1))
  else if kind = 2 then Except.map Resource.entry (idField 24 payload (off + 1))
  else if kind = 3 then Except.map Resource.gate (idField 8 payload (off + 1))
  else if kind = 4 then Except.map (fun _ : Fin 1 => Resource.mark) (idField 1 payload (off + 1))
  else .error .badValue

/-- The kind byte and number byte of a resource name (R177). -/
def Resource.nameBytes : Resource → List Byte
  | .axis n => [0, byteOfNat n]
  | .channel n => [1, byteOfNat n]
  | .entry n => [2, byteOfNat n]
  | .gate n => [3, byteOfNat n]
  | .mark => [4, 0]

/-- A source: kind byte BAD_VALUE first, then the number OUT_OF_RANGE, not examined for MARK and HOST (R47, R178). -/
def sourceField (payload : List Byte) (off : Nat) : Checked Source :=
  let kind := byteAt payload off
  if kind = 0 then Except.map Source.line (idField 8 payload (off + 1))
  else if kind = 1 then Except.map Source.index (idField 6 payload (off + 1))
  else if kind = 2 then .ok .mark
  else if kind = 3 then Except.map Source.entry (idField 24 payload (off + 1))
  else if kind = 4 then .ok .host
  else .error .badValue

/-- Step 6 of the validation order: the requester owns the resource (R149, R173). -/
def requireOwner (s : State) (p : PortId) (r : Resource) : Checked Unit := require (s.owns p r) .notOwner

/-- The counts an axis may take: the linear range, or 0 to span - 1 (R81, R95). -/
def Axis.inRange (x : Axis) (v : Int) : Bool :=
  if x.span = 0 then decide (Config.linearMin ≤ v ∧ v ≤ Config.linearMax) else decide (0 ≤ v ∧ v < x.span)

end Sys2Proof.Machine
end

