-- ==== Sys2Proof/Machine/Flags.lean ====
section
/-! DEFINITION. Bytes made of flags: the status byte, the cause byte and the entry byte; and the encoding of frames, records and
event records made with them (R179, R180, R181, R188). -/

namespace Sys2Proof.Machine

/-- The status byte on the wire (R180). -/
def StatusByte.toByte (b : StatusByte) : Byte :=
  byteOfNat (bitAt b.session 7 + bitAt b.expired 6 + bitAt b.frameErr 5 + bitAt b.refused 4 + bitAt b.attn 3 + b.pending)

/-- A response frame: command, tag, result code, payload length, payload, CRC-8 (R179). -/
def Response.bytes (r : Response) : List Byte :=
  let body := [r.command, r.tag, r.result.code, byteOfNat r.payload.length] ++ r.payload
  body ++ [crc8 body]

/-- A request frame: command, tag, payload length, payload, CRC-8 (R179). -/
def Frame.bytes (f : Frame) : List Byte :=
  let body := [f.command, f.tag, byteOfNat f.payload.length] ++ f.payload
  body ++ [crc8 body]

/-- The cause byte of a record (R181). -/
def causeByte : Cause → Byte
  | .trigger c _ => byteOfNat c
  | .mark => 0x40
  | .host p => byteOfNat (0x80 + p.val)

/-- The burst byte of a record (R181). -/
def burstByte : Cause → Byte
  | .trigger _ k => byteOfNat k
  | .mark => 0
  | .host _ => 0

/-- The NARROW form of a count: its value limited to the 32-bit range (R85). -/
def narrow (v : Int) : Int :=
  if v > Config.narrowMax then Config.narrowMax else if v < Config.narrowMin then Config.narrowMin else v

/-- CLIPPED: the value lies outside the 32-bit range (R85). -/
def clipped (v : Int) : Bool := decide (v > Config.narrowMax ∨ v < Config.narrowMin)

/-- The entry byte of a value entry: axis number, CLIPPED, turns present, FAULTED (R181). -/
def ValueEntry.entryByte (v : ValueEntry) (clip : Bool) : Byte :=
  byteOfNat (v.axis.val + bitAt clip 5 + bitAt v.turns.isSome 6 + bitAt v.faulted 7)

/-- The two turns bytes, where turns is present (R181). -/
def turnsBytes : Option Turns → List Byte
  | none => []
  | some t => bytesOfNat 2 t.toNat

/-- A value entry in WIDE form (R181), with bit 5 of its entry byte: in a record always 0 (R181), in a SNAP response a free value
(log entry 32). -/
def ValueEntry.wideBytes (v : ValueEntry) (clip : Bool) : List Byte :=
  [v.entryByte clip] ++ bytesOfCount v.count ++ turnsBytes v.turns

/-- A value entry in NARROW form, as a SNAP response may hold it (R183). -/
def ValueEntry.narrowBytes (v : ValueEntry) : List Byte :=
  [v.entryByte (clipped v.count)] ++ bytesOfNarrow (narrow v.count) ++ turnsBytes v.turns

/-- An encoded record (R181). -/
def Record.bytes (r : Record) : List Byte :=
  bytesOfNat 4 r.seq.toNat ++ [r.stamp.epoch] ++ bytesOfNat 6 r.stamp.tick.toNat ++
    [causeByte r.cause, burstByte r.cause, byteOfNat r.values.length] ++ r.values.flatMap (fun v => v.wideBytes false)

/-- The encoded length of a value entry (R4). -/
def ValueEntry.size (v : ValueEntry) : Nat := 6 + if v.turns.isSome then 2 else 0

/-- The encoded length of a record (R4). -/
def Record.size (r : Record) : Nat := 14 + (r.values.map ValueEntry.size).sum

/-- A stamp on the wire: tick count 6, epoch 1 (R182, R184). -/
def Stamp.bytes (t : Stamp) : List Byte := bytesOfNat 6 t.tick.toNat ++ [t.epoch]

/-- The bytes of one event record: count, then its resource field (R188). -/
def EventRecords.bytes (r : EventRecords) : EventKind → List Byte
  | .logLevel => [byteOfNat r.logLevel]
  | .logDrop => [byteOfNat r.logDrop]
  | .logLapped => [byteOfNat r.logLapped]
  | .trigFired => [byteOfNat r.trigFired.count] ++ bytesOfNat 1 r.trigFired.members.toNat
  | .trigIgnored => [byteOfNat r.trigIgnored.count] ++ bytesOfNat 1 r.trigIgnored.members.toNat
  | .burstEnd =>
    [byteOfNat r.burstEnd.count] ++ bytesOfNat 1 r.burstEnd.complete.toNat ++ bytesOfNat 1 r.burstEnd.cut.toNat
  | .cmpHit => [byteOfNat r.cmpHit.count] ++ bytesOfNat 4 r.cmpHit.members.toNat
  | .axisFault => [byteOfNat r.axisFault.count] ++ bytesOfNat 1 r.axisFault.members.toNat
  | .claimLost => [byteOfNat r.claimLost.count] ++ bytesOfNat 6 r.claimLost.members.toNat
  | .markSeen => [byteOfNat r.markSeen]
  | .aligned => [byteOfNat r.aligned]

/-- The records of the kinds of a set, in the order of R151 (R188). -/
def EventRecords.block (r : EventRecords) (kinds : KindSet) : List Byte :=
  (allKinds.filter (fun k => inSet kinds k.index)).flatMap r.bytes

end Sys2Proof.Machine
end

