-- ==== Sys2Proof/Machine/Executor.lean ====
section
/-! DEFINITION. The request executor: the rotation, the taking of a request, steps 1 to 3 of the validation order (R171 to R173),
and the discard of a port's queues (R139, R170). -/

namespace Sys2Proof.Machine

/-- The ports in the order the executor searches them after `last` (R171). -/
def portRotation (last : PortId) : List PortId := [last + 1, last + 2, last + 3, last]

/-- The oldest waiting request of a port, unless it joined in this tick (R171). -/
def Port.waitingRequest (q : Port) : Option Frame :=
  match q.requests with
  | [] => none
  | w :: _ => if w.joinedNow then none else some w.frame

/-- The first request found in the rotation. -/
def State.searchRequest (s : State) : List PortId → Option (PortId × Frame)
  | [] => none
  | p :: rest =>
    match (s.port p).waitingRequest with
    | some f => some (p, f)
    | none => s.searchRequest rest

/-- A request that will be an accepted DEVICE_RESET when the executor takes it from port `p` (R142). -/
def State.acceptsReset (s : State) (p : PortId) (f : Frame) : Bool :=
  match s.session p with
  | none => false
  | some ses => decide (f.command = codeDeviceReset ∧ f.payload = [] ∧ ses.rank = 3)

/-- The request the executor takes next in this tick: none once it has taken one (R171). A DEVICE_RESET that would release the
pulse whose edge this tick has given is not executed in this tick (R131, log entry 10). -/
def State.nextRequest (s : State) : Option (PortId × Frame) :=
  if s.executor.took then none
  else
    match s.searchRequest (portRotation s.executor.last) with
    | none => none
    | some (p, f) => if s.mark.sampled = .pulseEdge ∧ s.acceptsReset p f then none else some (p, f)

/-! ### Whether a DEVICE_RESET of this tick can still be avoided (R131, R140, R171; log entry 10) -/

/-- Whether an expiry of a port's session is due in this tick (R135). -/
def State.expiryDue (s : State) (p : PortId) : Bool :=
  match s.session p with
  | none => false
  | some ses => ses.expiryDue

/-- The first request of these ports is an accepted DEVICE_RESET in every order of the expiries that are due, those of the ports
`due`: no request before it can be taken in its place, and no expiry discards it (R139, R171). -/
def State.resetFirst (s : State) (due : PortId → Bool) : List PortId → Bool
  | [] => false
  | p :: rest =>
    match (s.port p).waitingRequest with
    | none => s.resetFirst due rest
    | some f => s.acceptsReset p f && (!due p || s.resetFirst due rest)

/-- In every order that is left, the executor takes an accepted DEVICE_RESET in this tick. -/
def State.resetForced (s : State) : Bool :=
  !s.executor.took && s.resetFirst s.expiryDue (portRotation s.executor.last)

/-- The edge of the own pulse has been given in this tick, and the expiry of port `p`, taken now, would leave only orders in which
a DEVICE_RESET releases that pulse: the expiry is not taken before the executor has taken its request. -/
def State.expiryBarred (s : State) (p : PortId) : Bool :=
  decide (s.mark.sampled = .pulseEdge) && !s.resetForced && !s.executor.took &&
    s.resetFirst s.expiryDue ((portRotation s.executor.last).filter (fun q => decide (q ≠ p)))

/-- The edge of the own pulse has been given in this tick, and a frame of port `p` that reloads the idle timer now would leave only
orders in which a DEVICE_RESET releases that pulse: the expiry of the port comes before the frame. -/
def State.reloadBarred (s : State) (p : PortId) : Bool :=
  decide (s.mark.sampled = .pulseEdge) && !s.resetForced && !s.executor.took &&
    s.resetFirst (fun q => decide (q ≠ p) && s.expiryDue q) (portRotation s.executor.last)

/-! ### The taking of a request -/

/-- The oldest request of a port leaves its queue, and the executor has served the port (R171, R172). -/
def State.taken (s : State) (p : PortId) : State :=
  let port := s.port p
  (s.setPort p { port with requests := port.requests.tail }).setExecutor { last := p, took := true }

/-- Deposit the answer to a request: OK with its payload, or the result code with an empty payload (R172). The line level of a
TIME_READ is that of the tick, and stays open until the tick has made its drive changes (R118, R122, log entry 14). -/
def deliver (p : PortId) (f : Frame) (answer : Answer) (s : State) : State :=
  match answer with
  | .ok (payload, t) => t.deposit p { command := f.command, tag := f.tag, result := .ok, payload := payload,
                                          levelOpen := decide (f.command = codeTimeRead) }
  | .error code => s.deposit p { command := f.command, tag := f.tag, result := code, payload := [] }

/-- What executes a request: the port it came from, its payload, and the state in which it is taken. -/
abbrev Server := PortId → List Byte → State → Answer

/-- The executor takes this request of this port, when it is the one the rotation gives in this tick: it leaves the queue,
is executed whole, and its one response is deposited, in one happening (R171, R172). A request that is not the next is not
taken, and nothing happens (log entry 1). -/
def executorTakes (p : PortId) (f : Frame) (serve : Server) (s : State) : State :=
  if s.nextRequest = some (p, f) then deliver p f (serve p f.payload (s.taken p)) (s.taken p) else s

/-- Steps 1 and 3 of the validation order for a request of `len` payload bytes, OPEN apart (R173). -/
def sessionRequest (len : Nat) (body : PortId → Session → List Byte → State → Answer) : Server := fun p payload s =>
  match s.session p with
  | none => .error .noSession
  | some ses => if payload.length = len then body p ses payload s else .error .badLength

/-- A command code that names no request: NO_SESSION first, then UNKNOWN (R173). -/
def unknownAnswer : Server := fun p _ s =>
  match s.session p with
  | none => .error .noSession
  | some _ => .error .unknown

/-! ### The discard of a port's queues (R139, R142, R170) -/

/-- The receive state once the chosen response is discarded. While the status byte is not yet shifted out whole no byte of the
response has begun, and filler follows the status byte. After it the `begun` bytes that are on the line, the last perhaps half
shifted, are completed, and filler follows (R170). -/
def ReceiveState.cutChosen (begun : Nat) : ReceiveState → ReceiveState
  | .blocked => .blocked
  | .idle => .idle
  | .inTransaction t =>
    match t.chosen with
    | none => .inTransaction t
    | some r => .inTransaction { t with chosen := none, gone := some (r, if t.shown then begun else 0) }

/-- Discard the queues of a port but for the `kept` responses deposited last. The status byte and the incoming bytes of a
transaction in progress go on. The response at the head, which a transaction has chosen, is cut when it is discarded, and goes on
when it is kept (R170). -/
def Port.discardQueues (q : Port) (kept begun : Nat) : Port :=
  { q with
    requests := []
    responses := q.responses.drop (q.responses.length - kept)
    receive := if kept < q.responses.length then q.receive.cutChosen begun else q.receive }

/-- Discard the queues of a port, but for the `kept` responses deposited last (R139, R142). How many bytes of a response have been
begun at the discard is a free value: the host's clock decides it, and no command tells it (log entry 26). -/
def State.discardQueues (s : State) (p : PortId) (kept : Nat) : State :=
  { s.setPort p ((s.port p).discardQueues kept (Config.begunBytes s.discards)) with discards := s.discards + 1 }

/-- Discard the queues of every port, but for the response of a DEVICE_RESET that port `p` has just been given (R142, step 2). -/
def State.discardAll (s : State) (p : PortId) : State :=
  allPorts.foldl (fun t q => t.discardQueues q (if q = p then 1 else 0)) s

end Sys2Proof.Machine
end

