-- ==== Sys2Proof/Machine/Log.lean ====
section
/-! DEFINITION. The capture log and its readers: taking a capture request, the level check, and the LOG requests
(chapters 1 and 2). -/

namespace Sys2Proof.Machine

/-! ### Taking a capture request -/

/-- A distance of sequence numbers, modulo 2^32 (R6). -/
def distance (x r : Seq) : Nat := (x - r).toNat

/-- Records held: head - tail (R5). -/
def CaptureLog.held (l : CaptureLog) : Nat := distance l.head l.tail

/-- A reader's unread count: head - cursor (R25). -/
def CaptureLog.unread (l : CaptureLog) (r : Reader) : Nat := distance l.head r.cursor

/-- Whether a KEEP reader of some session stands at the tail (R10). -/
def State.tailPinned (s : State) : Bool :=
  allPorts.any (fun p => match s.reader p with
    | none => false
    | some r => decide (r.mode = .keep ∧ r.cursor = s.log.tail))

/-- The level check of one reader (R31), with LOG_LEVEL at the setting of the flag (R32). -/
def State.levelCheck (s : State) (p : PortId) : State :=
  match s.reader p with
  | none => s
  | some r =>
    if s.log.unread r < r.watermark then s.setReader p (some { r with level := false })
    else if r.level then s
    else (s.setReader p (some { r with level := true })).raiseTo p .logLevel

/-- The level check of every reader (R11). -/
def State.levelChecks (s : State) : State := allPorts.foldl State.levelCheck s

/-- Lap one reader when it is LOSSY and its cursor equalled the old tail (R12, R33). -/
def State.lap (oldTail : Seq) (s : State) (p : PortId) : State :=
  match s.reader p with
  | none => s
  | some r =>
    if r.mode = .lossy ∧ r.cursor = oldTail then
      (s.setReader p (some { r with cursor := r.cursor + 1, lost := saturate Config.counterLimit r.lost })).raiseTo p
        .logLapped
    else s

/-- Evict the tail record and lap the readers that stood there (R12). -/
def State.evict (s : State) : State :=
  allPorts.foldl (State.lap s.log.tail)
    (s.setLog { s.log with records := s.log.records.tail, tail := s.log.tail + 1 })

/-- The record that the log forms from a capture request (R1, R7). -/
def Capture.record (c : Capture) (seq : Seq) : Record :=
  { seq := seq, stamp := c.stamp, cause := c.cause, values := c.values }

/-- Write the record with seq = head, then check every reader's level (R11). -/
def State.write (s : State) (c : Capture) : State :=
  (s.setLog { s.log with records := s.log.records ++ [c.record s.log.head], head := s.log.head + 1 }).levelChecks

/-- Drop the capture: count it and raise LOG_DROP to every session with a reader (R13, R15, R16). -/
def State.drop (s : State) : State :=
  (s.setLog { s.log with drops := saturate Config.counterLimit s.log.drops }).raiseToReaders .logDrop

/-- The log takes a capture request: write, evict and write, or drop (R10). The outcome is the seq, or none when dropped. -/
def State.capture (s : State) (c : Capture) : State × Option Seq :=
  if s.log.held < Config.logCapacity then (s.write c, some s.log.head)
  else if s.tailPinned then (s.drop, none)
  else (s.evict.write c, some s.log.head)

/-! ### Captures under way (R8, R9, R14) -/

/-- The log takes a capture request, and its requester receives the outcome: a channel counts a drop, the others do nothing
(R14, R59). -/
def State.handOver (s : State) (c : Capture) : State × Option Seq :=
  let out := s.capture c
  match out.2, c.cause with
  | none, .trigger n _ =>
    let x := out.1.channel n
    (out.1.setChannel n { x with dropped := saturate Config.counterLimit x.dropped }, none)
  | none, .mark => out
  | none, .host _ => out
  | some _, _ => out

/-- The captures `now` reach the log one after the other, each as one whole happening (R10); `rest` stays under way. -/
def State.arrive (s : State) (now rest : List Capture) : State :=
  now.foldl (fun t c => (t.handOver c).1) { s with underway := rest }

/-- The captures that `first` names, in its order, then the others as they stand (R9, log entry 3). -/
def arranged : List Cause → List Capture → List Capture
  | [], captures => captures
  | x :: first, captures =>
    captures.filter (fun c => decide (c.cause = x)) ++ arranged first (captures.filter (fun c => !decide (c.cause = x)))

/-- The captures under way reach the log as a command orders it (R9). R65 gives the captures of two firings of one tick
"consecutive sequence numbers"; R9 lets the captures of a tick reach the log in either order, and the model follows it: a third
capture of the tick can be placed between the two (log entry 30). -/
def State.reachLog (s : State) (order : LogOrder) : State :=
  let captures := arranged order.first s.underway
  s.arrive (captures.take (captures.length - order.later)) (captures.drop (captures.length - order.later))

/-- Every capture under way reaches the log, as they were requested. -/
def State.allReachLog (s : State) : State := s.arrive s.underway []

/-- The captures of channel `n` under way reach the log. -/
def State.channelReachesLog (s : State) (n : ChannelId) : State :=
  let own := fun c : Capture => match c.cause with
    | .trigger m _ => decide (m = n)
    | .mark => false
    | .host _ => false
  s.arrive (s.underway.filter own) (s.underway.filter (fun c => !own c))

/-! ### Sampling (R3, R58) -/

/-- The value entry of one axis as it stands (R58). -/
def State.sampleAxis (s : State) (n : AxisId) : ValueEntry :=
  let x := s.axis n
  { axis := n, count := x.count, turns := if x.span = 0 then none else some x.turns, faulted := decide (x.state = .faulted) }

/-- One value entry for each axis of a set, in ascending axis order (R3). -/
def State.sampleAxes (s : State) (set : AxisSet) : List ValueEntry :=
  (allAxes.filter (fun n : AxisId => inSet set n.val)).map s.sampleAxis

/-! ### The LOG requests (R21, R27 to R29, R34 to R38, R42, R186) -/

/-- R27, R28: the watermark field. -/
def watermarkAt (payload : List Byte) : Nat := natAt payload 2 2

/-- LOG_SUBSCRIBE (R27, R28). -/
def logSubscribeBody (p : PortId) (_ : Session) (payload : List Byte) (s : State) : Answer := do
  let mode ← codeField readerMode? payload 0
  let oldest ← codeField startOldest? payload 1
  require (decide (1 ≤ watermarkAt payload ∧ watermarkAt payload ≤ Config.logCapacity)) .outOfRange
  let cursor := if oldest then s.log.tail else s.log.head
  let t := (s.setReader p (some { mode := mode, cursor := cursor, watermark := watermarkAt payload, level := false,
                                  lost := 0 })).levelCheck p
  return (bytesOfNat 4 cursor.toNat ++ bytesOfNat 4 s.log.head.toNat ++ bytesOfNat 4 s.log.tail.toNat, t)

/-- Step 7 for the requests of a reader: NOT_SUBSCRIBED without one (R42). -/
def requireReader (ses : Session) : Checked Reader :=
  match ses.reader with
  | some r => .ok r
  | none => .error .notSubscribed

/-- LOG_UNSUBSCRIBE (R29). -/
def logUnsubscribeBody (p : PortId) (ses : Session) (_ : List Byte) (s : State) : Answer := do
  let r ← requireReader ses
  return (bytesOfNat 4 r.cursor.toNat ++ bytesOfNat 2 r.lost, s.setReader p none)

/-- The records of a list taken in order while their encoded lengths fit the space (R35). -/
def fitting : Nat → List Record → List Record
  | _, [] => []
  | space, r :: rest => if r.size ≤ space then r :: fitting (space - r.size) rest else []

/-- The records LOG_FETCH selects: from cursor + skip, at most `max`, as far as they fit (R34, R35). -/
def CaptureLog.fetch (l : CaptureLog) (r : Reader) (skip max : Nat) : List Record :=
  fitting Config.fetchRecordSpace ((l.records.drop (distance r.cursor l.tail + skip)).take max)

/-- LOG_FETCH (R34 to R36). -/
def logFetchBody (_ : PortId) (ses : Session) (payload : List Byte) (s : State) : Answer := do
  let max := natAt payload 1 1
  require (decide (1 ≤ max ∧ max ≤ 4)) .outOfRange
  let r ← requireReader ses
  let records := s.log.fetch r (natAt payload 0 1) max
  return (bytesOfNat 4 r.cursor.toNat ++ bytesOfNat 4 s.log.head.toNat ++ bytesOfNat 2 r.lost ++
            [byteOfFlag r.level, byteOfNat records.length] ++ records.flatMap Record.bytes, s)

/-- How LOG_RELEASE reads the distance of n + 1 from the cursor (R6, R37). -/
inductive ReleaseReading where
  | moves | stale | beyond
  deriving DecidableEq, Repr

/-- The reading of R37, with the unread count `u`. -/
def releaseReading (d u : Nat) : ReleaseReading :=
  if d = 0 ∨ 2147483648 ≤ d then .stale else if d ≤ u then .moves else .beyond

/-- LOG_RELEASE (R37, R38). The range check has a reference only when a reader exists (R42, R173). -/
def logReleaseBody (p : PortId) (ses : Session) (payload : List Byte) (s : State) : Answer := do
  let r ← requireReader ses
  let next : Seq := BitVec.ofNat 32 (natAt payload 0 4) + 1
  match releaseReading (distance next r.cursor) (s.log.unread r) with
  | .beyond => .error .outOfRange
  | .stale => return ([1] ++ bytesOfNat 4 r.cursor.toNat ++ bytesOfNat 4 s.log.head.toNat, s)
  | .moves =>
    return ([0] ++ bytesOfNat 4 next.toNat ++ bytesOfNat 4 s.log.head.toNat,
            (s.setReader p (some { r with cursor := next })).levelCheck p)

/-- LOG_STATUS (R21). -/
def logStatusBody (_ : PortId) (ses : Session) (_ : List Byte) (s : State) : Answer :=
  let fixed := bytesOfNat 4 s.log.tail.toNat ++ bytesOfNat 4 s.log.head.toNat ++ bytesOfNat 2 s.log.drops
  match ses.reader with
  | none => .ok (fixed ++ [byteOfFlag false], s)
  | some r =>
    .ok (fixed ++ [byteOfFlag true, r.mode.code] ++ bytesOfNat 4 r.cursor.toNat ++ bytesOfNat 2 r.watermark ++
           bytesOfNat 2 r.lost ++ [byteOfFlag r.level], s)

def logSubscribeServer : Server := sessionRequest 4 logSubscribeBody
def logUnsubscribeServer : Server := sessionRequest 0 logUnsubscribeBody
def logFetchServer : Server := sessionRequest 2 logFetchBody
def logReleaseServer : Server := sessionRequest 4 logReleaseBody
def logStatusServer : Server := sessionRequest 0 logStatusBody

end Sys2Proof.Machine
end

