-- ==== Sys2Proof/Machine/Trigger.lean ====
section
/-! DEFINITION. Line filters, trigger events, firings, bursts, and the TRIG requests (chapter 3). -/

namespace Sys2Proof.Machine

/-! ### The line filter (R45, R71) -/

/-- One sample of a raw line by a filter of value `filter`. The first sample after pin reset only takes the level. A level other
than the filtered one is accepted at its sample number filter + 1 (R45). -/
def FilteredLine.sample (l : FilteredLine) (filter : Nat) : FilteredLine :=
  if !l.primed then { l with level := l.raw, run := 0, primed := true }
  else if l.raw = l.level then { l with run := 0 }
  else if filter ≤ l.run then { l with level := l.raw, run := 0 }
  else { l with run := l.run + 1 }

/-- The filtered level changed in a sample: never in the first one (R45). -/
def FilteredLine.changedTo (old new : FilteredLine) : Bool := old.primed && decide (old.level ≠ new.level)

/-- Whether a change to a level is an edge the field selects (R44). -/
def Edge.selects : Edge → Level → Bool
  | .rising, l => decide (l = .high)
  | .falling, l => decide (l = .low)
  | .both, _ => true

/-! ### Firing (R49, R52) -/

/-- The fired notice of channel `c` at one other channel (R49). -/
def Channel.notice (x : Channel) (c : ChannelId) : Channel :=
  if x.state = .waiting ∧ inSet x.outstanding c then
    let left := withoutMember x.outstanding c
    { x with outstanding := left, state := if left = 0 then .armed else .waiting }
  else x

/-- The fired notice of channel `c`, taken at each of the seven others (R49). -/
def State.noticeAll (s : State) (c : ChannelId) : State :=
  allChannels.foldl (fun t d => if d = c then t else t.setChannel d ((t.channel d).notice c)) s

/-- The capture of channel `c` at a burst index, with the stamp and the sample of this moment (R57). -/
def State.channelCapture (s : State) (c : ChannelId) (burstIndex : Nat) : Capture :=
  { stamp := s.stamp, cause := .trigger c burstIndex, values := s.sampleAxes (s.channel c).config.axes }

/-- The state a channel ends in after a firing or a burst (R52, R54). -/
def ArmMode.rest : ArmMode → ChannelState
  | .once => .spent
  | .every => .armed

/-- The channel after a firing: the count of fires, and the next state with its burst progress (R52). -/
def Channel.afterFiring (x : Channel) : Channel :=
  let y := { x with fires := x.fires + 1 }
  if 1 < x.config.burstCount then
    { y with state := .bursting, remaining := x.config.burstCount - 1, nextIndex := 1, countdown := x.config.interval,
             stepDue := false }
  else { y with state := x.config.mode.rest }

/-- One firing of an ARMED channel, but for its capture of burst index 0. The five effects of a firing do not wait on one another:
the outcome of the capture changes none of the others (R52, R59). -/
def State.fire (s : State) (c : ChannelId) : State :=
  let noticed := s.noticeAll c
  let x := noticed.channel c
  let told := if x.config.notify then noticed.raiseToOwner (.channel c) (.trigFired c) else noticed
  told.setChannel c x.afterFiring

/-- A trigger event is taken at a channel (R51). The capture of a firing is then under way to the log, where it arrives within the
tick (R9, R52). -/
def State.triggerEvent (s : State) (c : ChannelId) : State :=
  let x := s.channel c
  match x.state with
  | .disarmed => s
  | .spent => s
  | .armed => (s.request (s.channelCapture c 0)).fire c
  | .waiting =>
    (s.setChannel c { x with ignored := saturate Config.counterLimit x.ignored }).raiseToOwner (.channel c) (.trigIgnored c)
  | .bursting =>
    (s.setChannel c { x with ignored := saturate Config.counterLimit x.ignored }).raiseToOwner (.channel c) (.trigIgnored c)

/-- A happening at a source is a trigger event at each channel that takes it, one channel after the other (R44), before those of the
next command (log entry 29). -/
def State.triggerEvents (s : State) (channels : List ChannelId) : State := channels.foldl State.triggerEvent s

/-- The channels that take a change of a line to a level as a trigger event (R44), in the order `order` prefers. -/
def State.edgeChannels (s : State) (source : Source) (level : Level) (order : List ChannelId) : List ChannelId :=
  (preferred order allChannels).filter
    (fun c => decide ((s.channel c).config.source = source) && (s.channel c).config.edge.selects level)

/-- The channels whose source it is, edge not used (R44), in the order `order` prefers. -/
def State.sourceChannels (s : State) (source : Source) (order : List ChannelId) : List ChannelId :=
  (preferred order allChannels).filter (fun c => decide ((s.channel c).config.source = source))

/-! ### The trigger lines (R45) -/

/-- This tick's sample of a trigger line, with the trigger events of a change of its filtered level. A filter value set in this tick
judges the next tick's sample on (R45, log entry 34). -/
def State.sampleTrigLine (s : State) (l : LineId) (order : List ChannelId) : State :=
  let x := s.trigLine l
  let line := x.line.sample x.sampleFilter
  let t := s.setLine l { x with line := line, sampled := true }
  if x.line.changedTo line then t.triggerEvents (t.edgeChannels (.line l) line.level order) else t

/-- A trigger line shows a raw level. The line is sampled once a tick: a level shown after this tick's sample is seen in the
next one (log entry 9). -/
def State.showTrigLine (s : State) (l : LineId) (raw : Level) (order : List ChannelId) : State :=
  let x := s.trigLine l
  let t := s.setLine l { x with line := { x.line with raw := raw } }
  if x.sampled then t else t.sampleTrigLine l order

/-! ### Bursts (R54, R56, R68) -/

/-- The channel after burst step: remaining and index, then the next countdown or the end of the burst (R54). -/
def Channel.afterStep (x : Channel) : Channel :=
  if 1 < x.remaining then
    { x with remaining := x.remaining - 1, nextIndex := x.nextIndex + 1, countdown := x.config.interval, stepDue := false }
  else { x with state := x.config.mode.rest, remaining := 0, nextIndex := 0, countdown := 0, stepDue := false }

/-- The step that has fallen due is taken (R54); when none is due, nothing happens. -/
def State.takeBurstStep (s : State) (c : ChannelId) : State :=
  let x := s.channel c
  if x.state = .bursting ∧ x.stepDue then
    let u := (s.request (s.channelCapture c x.nextIndex)).setChannel c x.afterStep
    if 1 < x.remaining then u else u.raiseToOwner (.channel c) (.burstEnd c false)
  else s

/-- The countdown of a channel counts at the beginning of a tick; the last count is owed as the step that falls due (R54). DESIGN
CHOICE (log entry 27): no rule says where in the tick a count that leaves the countdown above 0 is made. -/
def Channel.tick (x : Channel) : Channel :=
  if x.state = .bursting then
    if 1 < x.countdown then { x with countdown := x.countdown - 1 } else { x with stepDue := true }
  else x

/-- A channel taken to DISARMED: the outstanding set is emptied, a burst is cut (R56, R68). -/
def Channel.disarmed (x : Channel) : Channel :=
  { x with state := .disarmed, outstanding := 0, remaining := 0, nextIndex := 0, countdown := 0, stepDue := false }

/-! ### The TRIG requests (R46 to R48, R53, R56, R61, R185) -/

/-- The configuration fields of TRIG_SETUP, checked in the order of R47. -/
def channelConfigFields (payload : List Byte) (c : ChannelId) : Checked ChannelConfig := do
  let source ← sourceField payload 1
  let edge ← codeField edge? payload 3
  let axes ← setField 6 1 payload 4
  let mode ← codeField armMode? payload 5
  let burst := natAt payload 6 1
  require (decide (1 ≤ burst ∧ burst ≤ 127)) .outOfRange
  let interval := natAt payload 7 2
  require (decide (1 ≤ interval)) .outOfRange
  let prereqs ← setField 8 1 payload 9
  require (!inSet prereqs c) .badValue
  let notify ← flagField payload 10
  return { source := source, edge := edge, axes := axes, mode := mode, burstCount := burst, interval := interval,
           prereqs := prereqs, notify := notify }

/-- TRIG_SETUP (R47). The captures that the channel has requested reach the log before its counters are set to 0, so that fires
and dropped go on to tell how many records it has written (R60; DEDUCED, log entry 28). -/
def trigSetupBody (p : PortId) (_ : Session) (payload : List Byte) (s : State) : Answer := do
  let c ← idField 8 payload 0
  let config ← channelConfigFields payload c
  requireOwner s p (.channel c)
  let x := s.channel c
  require (decide (x.state = .disarmed ∨ x.state = .spent)) .wrongState
  return ([], (s.channelReachesLog c).setChannel c { x with config := config, fires := 0, ignored := 0, dropped := 0 })

/-- Whether the session of a port may set the filter of a line: it owns each owned channel with that source (R46). -/
def State.mayFilter (s : State) (p : PortId) (l : LineId) : Bool :=
  allChannels.all (fun c =>
    !decide ((s.channel c).config.source = .line l) || decide (s.owner (.channel c) = none) || s.owns p (.channel c))

/-- TRIG_LINE_FILTER (R46). -/
def trigLineFilterBody (p : PortId) (_ : Session) (payload : List Byte) (s : State) : Answer := do
  let l ← idField 8 payload 0
  require (s.mayFilter p l) .notOwner
  return ([byteAt payload 1], s.setLine l { s.trigLine l with filter := (byteAt payload 1).toNat })

/-- A channel armed (R48). -/
def Channel.arm (x : Channel) : Channel :=
  { x with state := if x.config.prereqs = 0 then .armed else .waiting, outstanding := x.config.prereqs, remaining := 0,
           nextIndex := 0, countdown := 0, stepDue := false }

/-- TRIG_ARM (R48). -/
def trigArmBody (p : PortId) (_ : Session) (payload : List Byte) (s : State) : Answer := do
  let c ← idField 8 payload 0
  requireOwner s p (.channel c)
  let x := s.channel c
  require (decide (x.state = .disarmed ∨ x.state = .spent)) .wrongState
  return ([x.arm.state.code], s.setChannel c x.arm)

/-- TRIG_DISARM, accepted in every state; a cut burst raises BURST_END in the cut set (R56). -/
def trigDisarmBody (p : PortId) (_ : Session) (payload : List Byte) (s : State) : Answer := do
  let c ← idField 8 payload 0
  requireOwner s p (.channel c)
  let x := s.channel c
  let t := s.setChannel c x.disarmed
  return ([x.state.code, byteOfNat x.remaining],
          if x.state = .bursting then t.raiseToOwner (.channel c) (.burstEnd c true) else t)

/-- The outcome of a logged capture: written with its seq, or dropped (R178). -/
def outcomeBytes : Option Seq → List Byte
  | some seq => [outcomeWritten] ++ bytesOfNat 4 seq.toNat
  | none => [outcomeDropped]

/-- TRIG_FIRE: the firing, and its capture at the log, whose outcome is in the response of this one happening (R53, R172;
log entry 28). -/
def trigFireBody (p : PortId) (_ : Session) (payload : List Byte) (s : State) : Answer := do
  let c ← idField 8 payload 0
  requireOwner s p (.channel c)
  require (decide ((s.channel c).state = .armed)) .wrongState
  let out := (s.fire c).handOver (s.channelCapture c 0)
  return (outcomeBytes out.2, out.1)

/-- The ten configuration bytes of TRIG_SETUP, without the channel number (R185). -/
def ChannelConfig.bytes (k : ChannelConfig) : List Byte :=
  [k.source.kindCode, k.source.numberCode, k.edge.code, byteOfNat k.axes.toNat, k.mode.code, byteOfNat k.burstCount] ++
    bytesOfNat 2 k.interval ++ [byteOfNat k.prereqs.toNat, byteOfFlag k.notify]

/-- The TRIG_STATUS response (R61, R185). -/
def Channel.statusBytes (x : Channel) : List Byte :=
  x.config.bytes ++ [x.state.code, byteOfNat x.outstanding.toNat, byteOfNat x.remaining, byteOfNat x.nextIndex] ++
    bytesOfNat 2 x.fires.toNat ++ bytesOfNat 2 x.ignored ++ bytesOfNat 2 x.dropped

/-- TRIG_STATUS (R61). -/
def trigStatusBody (_ : PortId) (_ : Session) (payload : List Byte) (s : State) : Answer := do
  let c ← idField 8 payload 0
  return ((s.channel c).statusBytes, s)

def trigSetupServer : Server := sessionRequest 11 trigSetupBody
def trigLineFilterServer : Server := sessionRequest 2 trigLineFilterBody
def trigArmServer : Server := sessionRequest 1 trigArmBody
def trigDisarmServer : Server := sessionRequest 1 trigDisarmBody
def trigFireServer : Server := sessionRequest 1 trigFireBody
def trigStatusServer : Server := sessionRequest 1 trigStatusBody

end Sys2Proof.Machine
end

