-- ==== Sys2Proof/Machine/Gate.lean ====
section
/-! DEFINITION. The gate unit and the GATE requests (chapter 5). -/

namespace Sys2Proof.Machine

/-- Whether at least one entry of a set has met true (R106). -/
def State.anyMet (s : State) (sources : EntrySet) : Bool :=
  allEntries.any (fun e => inSet sources e && (s.entry e).met)

/-- The output level that the mode of a gate gives (R106). -/
def State.gateLevel (s : State) (x : Gate) : Activity :=
  match x.mode with
  | .manual => x.manual
  | .follow => if s.anyMet x.sources then .active else .inactive
  | .pulse => if 0 < x.remaining then .active else .inactive

/-- The level of pin GATEn (R106). -/
def Gate.pin (x : Gate) : Level :=
  match x.polarity, x.output with
  | .normal, .active => .high
  | .normal, .inactive => .low
  | .inverted, .active => .low
  | .inverted, .inactive => .high

/-- A gate at a change of met of entry `e`: in FOLLOW, with the entry among its sources, it recomputes its output (R107). -/
def State.followGate (s : State) (e : EntryId) (x : Gate) : Gate :=
  if x.mode = .follow ∧ inSet x.sources e then { x with output := s.gateLevel x } else x

/-- Every gate sees a change of met of entry `e` (R99, R107). -/
def State.followGates (s : State) (e : EntryId) : State := { s with gates := Bank.mapAll s.gates (s.followGate e) }

/-- A PULSE gate starts or restarts its pulse at a hit of a source (R108). -/
def Gate.hit (x : Gate) (e : EntryId) : Gate :=
  if x.mode = .pulse ∧ inSet x.sources e then { x with remaining := x.width, output := .active, endDue := false } else x

/-- Every gate sees a hit of entry `e` (R100, R108). -/
def State.pulseGates (s : State) (e : EntryId) : State :=
  { s with gates := Bank.mapAll s.gates (fun x => x.hit e) }

/-- A gate's pulse counts at the beginning of a tick; the last count is owed as the end of the pulse (R108, R112). DESIGN CHOICE
(log entry 27): R112 leaves open whether a count that leaves pulse remaining above 0 comes before or after the requests of its
tick, such as GATE_STATUS; here it always comes before them. -/
def Gate.tick (x : Gate) : Gate :=
  if x.remaining = 0 then x
  else if 1 < x.remaining then { x with remaining := x.remaining - 1 }
  else { x with endDue := true }

/-- The pulse end that has fallen due is taken (R108); when none is due, nothing happens. -/
def State.takeGatePulseEnd (s : State) (g : GateId) : State :=
  let x := s.gate g
  if x.endDue then s.setGate g { x with remaining := 0, output := .inactive, endDue := false } else s

/-- A parked gate: MANUAL and INACTIVE, any pulse cut; polarity, sources and width kept (R114). -/
def Gate.parked (x : Gate) : Gate :=
  { x with mode := .manual, manual := .inactive, remaining := 0, output := .inactive, endDue := false }

/-! ### The GATE requests (R109 to R111, R187) -/

/-- GATE_SETUP (R109). -/
def gateSetupBody (p : PortId) (_ : Session) (payload : List Byte) (s : State) : Answer := do
  let g ← idField 8 payload 0
  let mode ← codeField gateMode? payload 1
  let polarity ← codeField polarity? payload 2
  let sources ← setField 24 4 payload 3
  let width := natAt payload 7 2
  require (decide (1 ≤ width)) .outOfRange
  requireOwner s p (.gate g)
  let x := { s.gate g with mode := mode, polarity := polarity, sources := sources, width := width, remaining := 0,
                           endDue := false }
  let level := s.gateLevel x
  return ([level.code], s.setGate g { x with output := level })

/-- GATE_SET (R110). -/
def gateSetBody (p : PortId) (_ : Session) (payload : List Byte) (s : State) : Answer := do
  let g ← idField 8 payload 0
  let level ← codeField activity? payload 1
  requireOwner s p (.gate g)
  let x := s.gate g
  let output := if x.mode = .manual then level else x.output
  return ([output.code], s.setGate g { x with manual := level, output := output })

/-- The GATE_STATUS response (R111, R187). -/
def Gate.statusBytes (x : Gate) : List Byte :=
  [x.mode.code, x.polarity.code] ++ bytesOfNat 4 x.sources.toNat ++ bytesOfNat 2 x.width ++ [x.manual.code] ++
    bytesOfNat 2 x.remaining ++ [x.output.code, levelCode x.pin]

/-- GATE_STATUS (R111). -/
def gateStatusBody (_ : PortId) (_ : Session) (payload : List Byte) (s : State) : Answer := do
  let g ← idField 8 payload 0
  return ((s.gate g).statusBytes, s)

def gateSetupServer : Server := sessionRequest 9 gateSetupBody
def gateSetServer : Server := sessionRequest 2 gateSetBody
def gateStatusServer : Server := sessionRequest 1 gateStatusBody

end Sys2Proof.Machine
end

