-- ==== Sys2Proof/Machine/Mark.lean ====
section
/-! DEFINITION. The timebase, the MARK line with its recognizer, the part's own pulse, and their requests (chapter 6). -/

namespace Sys2Proof.Machine

/-! ### The part's own pulse (R122, R126) -/

/-- The level of the MARK line: low while this part or another party pulls it (R122). -/
def MarkUnit.line (m : MarkUnit) : Level :=
  if m.drive = .driving ∨ m.outside = .low then .low else .high

/-- The level of the line at its last sample, as the recognizer tells it: low leaves a low run in READY, or HELD without a high
run (R123). -/
def MarkUnit.sampledLevel (m : MarkUnit) : Level :=
  match m.recognizer with
  | .ready => if m.lowRun = 0 then .high else .low
  | .held => if m.highRun = 0 then .low else .high

/-- The level of the present tick, as far as the tick has gone: that of its sample once it is taken, before that the level the line
holds now (R122). -/
def MarkUnit.tickLevel (m : MarkUnit) : Level := if m.sampled = .notYet then m.line else m.sampledLevel

/-- The sample of this tick taken high by RECOGNIZER_REARM does not stand once a pulse of this part starts in the tick
(R122, log entry 10). -/
def MarkUnit.sampleAgain (m : MarkUnit) : MarkUnit :=
  if m.sampled = .rearmed then { m with recognizer := .held, highRun := Config.markSamples - 1, lowRun := 0, sampled := .notYet }
  else m

/-- A pulse of this part starts: the line is pulled low from this tick (R126). -/
def MarkUnit.startPulse (m : MarkUnit) : MarkUnit :=
  { m.sampleAgain with drive := .driving, remaining := Config.markPulseTicks, endDue := false }

/-- The drive counts at the beginning of a tick; the last count is owed as the end of the pulse (R126). DESIGN CHOICE (log entry
27): no rule says where in the tick a count that leaves drive remaining above 0 is made. -/
def MarkUnit.tickDrive (m : MarkUnit) : MarkUnit :=
  if m.drive = .driving then
    if 1 < m.remaining then { m with remaining := m.remaining - 1 } else { m with endDue := true }
  else m

/-- The part's own pulse released (R126, R131). -/
def MarkUnit.released (m : MarkUnit) : MarkUnit := { m with drive := .idle, remaining := 0, endDue := false }

/-- The pulse end that has fallen due is taken (R126); when none is due, nothing happens. -/
def State.takeMarkPulseEnd (s : State) : State := if s.mark.endDue then s.setMark s.mark.released else s

/-! ### Alignment and the recognised edge (R120, R124) -/

/-- The timebase aligned: preload loaded, epoch up by one, IDLE (R120). -/
def Timebase.aligned (t : Timebase) : Timebase :=
  { tick := t.preload, epoch := t.epoch + 1, align := .idle, preload := 0 }

/-- An armed timebase aligns at the edge and ALIGNED goes to every open session (R120). -/
def State.alignAtEdge (s : State) : State :=
  if s.time.align = .armed then (s.setTime s.time.aligned).raiseToAll .aligned else s

/-- The MARK capture of an edge, when the capture axis set is not empty (R124). -/
def State.markCapture (s : State) : State :=
  if s.mark.captureSet = 0 then s
  else s.request { stamp := s.stamp, cause := .mark, values := s.sampleAxes s.mark.captureSet }

/-- MARK_SEEN to every open session, when the notify flag is set (R124). -/
def State.markNotify (s : State) : State := if s.mark.notify then s.raiseToAll .markSeen else s

/-- A recognised edge, in the steps of R124. The MARK capture and those of the MARK-source channels that fire are then under way to
the log, where they arrive in any order (R9). -/
def State.recogniseEdge (s : State) (order : List ChannelId) : State :=
  let captured := s.alignAtEdge.markCapture
  (captured.triggerEvents (captured.sourceChannels .mark order)).markNotify

/-! ### The recognizer (R123) -/

/-- A sample that gives an edge, on a low that another party holds or that the own pulse alone holds (log entry 10). -/
def MarkUnit.edgeSample (m : MarkUnit) : SampleMark := if m.outside = .low then .taken else .pulseEdge

/-- The recognizer after this tick's sample, and whether the sample gives an edge (R123). -/
def MarkUnit.sample (m : MarkUnit) : MarkUnit × Bool :=
  match m.recognizer, m.line with
  | .ready, .high => ({ m with lowRun := 0, sampled := .taken }, false)
  | .ready, .low =>
    if m.lowRun + 1 < Config.markSamples then ({ m with lowRun := m.lowRun + 1, sampled := .taken }, false)
    else ({ m with recognizer := .held, lowRun := 0, highRun := 0, sampled := m.edgeSample }, true)
  | .held, .low => ({ m with highRun := 0, sampled := .taken }, false)
  | .held, .high =>
    if m.highRun + 1 < Config.markSamples then ({ m with highRun := m.highRun + 1, sampled := .taken }, false)
    else ({ m with recognizer := .ready, lowRun := 0, highRun := 0, sampled := .taken }, false)

/-- This tick's sample of the line, with the edge it may give (R123, R124). -/
def State.sampleMark (s : State) (order : List ChannelId) : State :=
  let t := s.setMark s.mark.sample.1
  if s.mark.sample.2 then t.recogniseEdge order else t

/-- The low of this tick is certain: another party holds the line, or the own pulse is not released in this tick by its end, and
an order is left in which no DEVICE_RESET releases it. The level of a tick is the one after the drive changes taken in it (R122,
R131, R140, log entry 10). -/
def State.lowCertain (s : State) : Bool :=
  decide (s.mark.outside = .low) || (decide (s.mark.drive = .driving) && !s.mark.endDue && !s.resetForced)

/-- The fourth consecutive low sample is taken at this point of the tick (R123, R124); when it is not due, nothing happens. -/
def State.takeRecognisedEdge (s : State) (order : List ChannelId) : State :=
  if s.mark.sampled = .notYet ∧ s.mark.sample.2 ∧ s.lowCertain then s.sampleMark order else s

/-- The fourth consecutive high sample is taken at this point of the tick (R123); when it is not due, nothing happens. The level
of a tick is the one after its drive changes (R122): a pulse of this part that starts later in the tick undoes the sample
(`sampleAgain`), and no request reports it while such a pulse can still come (`State.rearmStands`, log entry 10). -/
def State.takeRearm (s : State) : State :=
  if s.mark.sampled = .notYet ∧ s.mark.recognizer = .held ∧ s.mark.line = .high ∧
      s.mark.highRun + 1 = Config.markSamples then
    s.setMark { s.mark with recognizer := .ready, lowRun := 0, highRun := 0, sampled := .rearmed }
  else s

/-- The other parties pull the line low or release it (R122). Once this tick's sample is taken, by RECOGNISED_EDGE or by
RECOGNIZER_REARM, a change of theirs counts from the next tick's sample on. DESIGN CHOICE (log entry 25): R122 samples after the
drive changes of the tick, and leaves open where in the tick a change of another party falls. -/
def State.showMarkLine (s : State) (outside : Level) : State := s.setMark { s.mark with outside := outside }

/-! ### The requests (R119, R125, R126, R184) -/

/-- ALIGN_ARM (R119). -/
def alignArmBody (p : PortId) (_ : Session) (payload : List Byte) (s : State) : Answer := do
  require (decide (natAt payload 0 8 < 2 ^ 48)) .outOfRange
  requireOwner s p .mark
  let preload : Tick := BitVec.ofNat 48 (natAt payload 0 8)
  return (bytesOfNat 6 preload.toNat, s.setTime { s.time with align := .armed, preload := preload })

/-- ALIGN_CANCEL (R119). -/
def alignCancelBody (p : PortId) (_ : Session) (_ : List Byte) (s : State) : Answer := do
  requireOwner s p .mark
  return ([s.time.align.code], s.setTime { s.time with align := .idle, preload := 0 })

/-- MARK_SETUP (R125). -/
def markSetupBody (p : PortId) (_ : Session) (payload : List Byte) (s : State) : Answer := do
  let set ← setField 6 1 payload 0
  let notify ← flagField payload 1
  requireOwner s p .mark
  return ([], s.setMark { s.mark with captureSet := set, notify := notify })

/-- MARK_PULSE (R126). -/
def markPulseBody (_ : PortId) (_ : Session) (_ : List Byte) (s : State) : Answer := do
  require (decide (s.mark.drive = .idle)) .markBusy
  return (s.stamp.bytes, s.setMark s.mark.startPulse)

def alignArmServer : Server := sessionRequest 8 alignArmBody
def alignCancelServer : Server := sessionRequest 0 alignCancelBody
def markSetupServer : Server := sessionRequest 2 markSetupBody
def markPulseServer : Server := sessionRequest 0 markPulseBody

end Sys2Proof.Machine
end

