-- ==== Sys2Proof/Machine/Compare.lean ====
section
/-! DEFINITION. The compare unit: conditions, offers, hits, and the CMP requests (chapter 5). -/

namespace Sys2Proof.Machine

/-- The INSIDE condition, with its wrapping form when a is greater than b (R93). -/
def insideWindow (a b x : Int) : Bool := if a ≤ b then decide (a ≤ x ∧ x ≤ b) else decide (a ≤ x ∨ x ≤ b)

/-- The condition of an entry on a count (R93). -/
def Entry.condition (e : Entry) (x : Int) : Bool :=
  match e.kind with
  | .atPoint => decide (x = e.a)
  | .above => decide (x > e.a)
  | .below => decide (x < e.a)
  | .inside => insideWindow e.a e.b x
  | .outside => !insideWindow e.a e.b x

/-- Replace the met flag of an entry; a change is handed to the FOLLOW gates (R99, R107). -/
def State.setMet (s : State) (e : EntryId) (met : Bool) : State :=
  let x := s.entry e
  if x.met = met then s else (s.setEntry e { x with met := met }).followGates e

/-- Replace an entry, and hand a change of its met flag to the FOLLOW gates (R96, R98, R107). -/
def State.replaceEntry (s : State) (e : EntryId) (x : Entry) : State :=
  let t := s.setEntry e x
  if (s.entry e).met = x.met then t else t.followGates e

/-- The pulse request of a hit: the pulse starts, or is suppressed and counted at the entry (R101). -/
def State.requestMark (s : State) (e : EntryId) : State :=
  if s.mark.drive = .idle then s.setMark s.mark.startPulse
  else
    let x := s.entry e
    s.setEntry e { x with suppressed := countUp x.suppressed }

/-- The hit record of an entry after a hit (R100). -/
def Entry.recordHit (x : Entry) (stamp : Stamp) : Entry := { x with hits := countUp x.hits, lastHit := some stamp }

/-- A hit, with its hand-overs but for the trigger events, which the channels take once the offer has reached every entry
(`State.applyDecoded`): no hand-over of a hit waits for another (R100). -/
def State.hit (s : State) (e : EntryId) : State :=
  let x := s.entry e
  let recorded := s.setEntry e (x.recordHit s.stamp)
  let told := if x.event then recorded.raiseToOwner (.entry e) (.cmpHit e) else recorded
  let pulsed := told.pulseGates e
  if x.markFlag then pulsed.requestMark e else pulsed

/-- The two kinds of offer an axis makes (R83). -/
inductive OfferKind where
  | step | quiet
  deriving DecidableEq, Repr

/-- An offer of a count at one entry (R99): a DISABLED entry does nothing; met takes the condition; a STEP that turns it true is
a hit. -/
def State.offerEntry (kind : OfferKind) (count : Int) (s : State) (e : EntryId) : State :=
  let x := s.entry e
  if !x.enabled then s
  else
    let met := x.condition count
    let t := s.setMet e met
    if kind = .step ∧ !x.met ∧ met then t.hit e else t

/-- The entries that watch an axis, in the order `order` prefers (R99). -/
def State.watchers (s : State) (n : AxisId) (order : List EntryId) : List EntryId :=
  (preferred order allEntries).filter (fun e => decide ((s.entry e).axis = n))

/-- An axis offers its count to the compare unit (R83, R99). -/
def State.offer (s : State) (n : AxisId) (kind : OfferKind) (entries : List EntryId) : State :=
  (s.watchers n entries).foldl (State.offerEntry kind (s.axis n).count) s

/-- The entries that a STEP offer of the count of axis `n` makes hit (R99). -/
def State.hits (s : State) (n : AxisId) (e : EntryId) : Bool :=
  let x := s.entry e
  decide (x.axis = n) && x.enabled && !x.met && x.condition (s.axis n).count

/-- The channels that take a trigger event of the hits that a STEP offer of axis `n` makes, in the order `order` prefers (R44,
R100). DESIGN CHOICE (log entry 3): the spec leaves open whether the trigger events of two hits of one step, "taken at each channel
by itself" (R44), may interleave; the one order lets them. -/
def State.hitChannels (s : State) (n : AxisId) (order : List ChannelId) : List ChannelId :=
  (preferred order allChannels).filter (fun c => allEntries.any (fun e =>
    s.hits n e && decide ((s.channel c).config.source = .entry e)))

/-- A parked entry: DISABLED with met false; the rest kept (R113). -/
def Entry.parked (x : Entry) : Entry := { x with enabled := false, met := false }

/-! ### The CMP requests (R95 to R98, R103, R187) -/

/-- Whether a kind uses bound b (R92). -/
def CompareKind.usesB : CompareKind → Bool
  | .inside => true
  | .outside => true
  | .atPoint => false
  | .above => false
  | .below => false

/-- The bounds of CMP_SETUP judged against the axis as it stands: the last two field checks of R95. -/
def boundChecks (x : Axis) (kind : CompareKind) (a b : Int) : Checked Unit := do
  require (x.inRange a && (!kind.usesB || x.inRange b)) .outOfRange
  require (!(kind.usesB && decide (b < a) && decide (x.span = 0))) .badValue

/-- CMP_SETUP (R95, R96): the configuration replaced, the entry DISABLED, its hit record cleared. -/
def cmpSetupBody (p : PortId) (_ : Session) (payload : List Byte) (s : State) : Answer := do
  let e ← idField 24 payload 0
  let n ← idField 6 payload 1
  let kind ← codeField compareKind? payload 2
  let event ← flagField payload 13
  let markFlag ← flagField payload 14
  let a := countAt payload 3
  let b := countAt payload 8
  boundChecks (s.axis n) kind a b
  requireOwner s p (.entry e)
  return ([], s.replaceEntry e
    { axis := n, kind := kind, a := a, b := if kind.usesB then b else 0, event := event, markFlag := markFlag,
      enabled := false, met := false, hits := 0, lastHit := none, suppressed := 0 })

/-- CMP_ENABLE: enabled, and evaluated once, quietly (R97). -/
def cmpEnableBody (p : PortId) (_ : Session) (payload : List Byte) (s : State) : Answer := do
  let e ← idField 24 payload 0
  requireOwner s p (.entry e)
  let x := s.entry e
  let met := x.condition (s.axis x.axis).count
  return ([byteOfFlag met], s.replaceEntry e { x with enabled := true, met := met })

/-- CMP_DISABLE (R98). -/
def cmpDisableBody (p : PortId) (_ : Session) (payload : List Byte) (s : State) : Answer := do
  let e ← idField 24 payload 0
  requireOwner s p (.entry e)
  return ([], s.replaceEntry e { s.entry e with enabled := false, met := false })

/-- The last-hit flag, tick count and epoch of CMP_STATUS; absent, the seven bytes are 0 (R187). -/
def lastHitBytes : Option Stamp → List Byte
  | none => [0, 0, 0, 0, 0, 0, 0, 0]
  | some t => [1] ++ t.bytes

/-- The CMP_STATUS response (R103, R187). -/
def Entry.statusBytes (x : Entry) : List Byte :=
  [byteOfNat x.axis, x.kind.code] ++ bytesOfCount x.a ++ bytesOfCount x.b ++ [byteOfFlag x.event, byteOfFlag x.markFlag] ++
    [byteOfFlag x.enabled, byteOfFlag x.met, byteOfNat x.hits] ++ lastHitBytes x.lastHit ++ [byteOfNat x.suppressed]

/-- CMP_STATUS (R103). -/
def cmpStatusBody (_ : PortId) (_ : Session) (payload : List Byte) (s : State) : Answer := do
  let e ← idField 24 payload 0
  return ((s.entry e).statusBytes, s)

def cmpSetupServer : Server := sessionRequest 15 cmpSetupBody
def cmpEnableServer : Server := sessionRequest 1 cmpEnableBody
def cmpDisableServer : Server := sessionRequest 1 cmpDisableBody
def cmpStatusServer : Server := sessionRequest 1 cmpStatusBody

end Sys2Proof.Machine
end

