-- ==== Sys2Proof/Machine/AxisUnit.lean ====
section
/-! DEFINITION. Sampling and decoding of an axis, its count, the AXIS and SNAP requests (chapter 4), and TIME_READ, whose report
of the recognizer looks at the axes still to be sampled (chapter 6). -/

namespace Sys2Proof.Machine

/-! ### Decoding (R72 to R75) -/

/-- What one comparison gives (R72). -/
inductive Decoded where
  | nothing
  | step (up : Bool)
  | phaseError
  deriving DecidableEq, Repr

/-- The direction of a quadrature change (R73): after a change of A, up when A differs from B; after a change of B, up when B
equals A. -/
def quadratureStep (aChanged : Bool) (a b : Level) : Decoded := .step (if aChanged then decide (a ≠ b) else decide (a = b))

/-- One comparison of the filtered levels with those of the tick before, under a decode mode (R73 to R75). -/
def decodeLevels (mode : DecodeMode) (a0 b0 a b : Level) : Decoded :=
  let aChanged := decide (a0 ≠ a)
  let bChanged := decide (b0 ≠ b)
  let aRose := aChanged && decide (a = .high)
  let bRose := bChanged && decide (b = .high)
  match mode with
  | .off => .nothing
  | .quad4 =>
    if aChanged && bChanged then .phaseError
    else if aChanged || bChanged then quadratureStep aChanged a b
    else .nothing
  | .quad2 => if aChanged && bChanged then .phaseError else if aChanged then quadratureStep true a b else .nothing
  | .quad1 =>
    if aChanged && bChanged then .phaseError
    else if aChanged && decide (b = .low) then quadratureStep true a b
    else .nothing
  | .pulseDir => if aRose then .step (decide (b = .low)) else .nothing
  | .upDown =>
    if aRose && bRose then .phaseError else if aRose then .step true else if bRose then .step false else .nothing

/-! ### The count (R75, R77, R78, R87) -/

/-- What a counting step does to an axis: the stepped axis, or none when it would pass a linear limit (R77, R78). -/
def Axis.stepped (x : Axis) (up : Bool) : Option Axis :=
  if x.span = 0 then
    let count := if up then x.count + 1 else x.count - 1
    if Config.linearMin ≤ count ∧ count ≤ Config.linearMax then some { x with count := count } else none
  else if up then
    if x.count = (x.span : Int) - 1 then some { x with count := 0, turns := x.turns + 1 }
    else some { x with count := x.count + 1 }
  else if x.count = 0 then some { x with count := (x.span : Int) - 1, turns := x.turns - 1 }
  else some { x with count := x.count - 1 }

/-- An axis enters FAULTED with a cause, and AXIS_FAULT goes to its owner (R87). -/
def State.faultAxis (s : State) (n : AxisId) (x : Axis) (cause : FaultCause) : State :=
  (s.setAxis n { x with state := .faulted, cause := cause }).raiseToOwner (.axis n) (.axisFault n)

/-- A decoded comparison acts on an axis in COUNTING alone (R72, R76). The hits of a step reach the channels by one order
(log entry 3). -/
def State.applyDecoded (s : State) (n : AxisId) (d : Decoded) (entries : List EntryId) (channels : List ChannelId) : State :=
  let x := s.axis n
  if x.state ≠ .counting then s
  else
    match d with
    | .nothing => s
    | .phaseError => s.faultAxis n { x with phaseErrors := countUp x.phaseErrors } .phase
    | .step up =>
      match x.stepped (up != x.invert) with
      | some y =>
        let moved := s.setAxis n y
        (moved.offer n .step entries).triggerEvents (moved.hitChannels n channels)
      | none => s.faultAxis n x .overrange

/-- This tick's sample of A and B, and the comparison (R71, R72). The first sample after pin reset shows no change. A filter value
set in this tick judges the next sample on, also when it was set before this one (R71, R89). -/
def State.sampleAB (s : State) (n : AxisId) (entries : List EntryId) (channels : List ChannelId) : State :=
  let x := s.axis n
  let a := x.a.sample x.sampleFilter
  let b := x.b.sample x.sampleFilter
  let a0 := if x.a.changedTo a then x.a.level else a.level
  let b0 := if x.b.changedTo b then x.b.level else b.level
  let t := s.setAxis n { x with a := a, b := b, sampledAB := true }
  t.applyDecoded n (decodeLevels x.mode a0 b0 a.level b.level) entries channels

/-- This tick's sample of the index line Z, with the trigger events of a change of its filtered level (R44, R71, R89). -/
def State.sampleZ (s : State) (n : AxisId) (channels : List ChannelId) : State :=
  let x := s.axis n
  let z := x.z.sample x.sampleFilter
  let t := s.setAxis n { x with z := z, sampledZ := true }
  if x.z.changedTo z then t.triggerEvents (t.edgeChannels (.index n) z.level channels) else t

/-! ### Whether a re-arm of this tick stands (R118, R122; log entry 10) -/

/-- Axis `n` is still to be sampled in this tick, and the levels it shows now would start the part's own pulse. -/
def State.startsPulse (s : State) (n : AxisId) : Bool :=
  !(s.axis n).sampledAB && decide (s.mark.drive = .idle) && decide ((s.sampleAB n [] []).mark.drive = .driving)

/-- The high sample that RECOGNIZER_REARM took in this tick stands: the executor has taken its request, so that only a hit can
still start a pulse, and no axis starts one with the levels it shows now. -/
def State.rearmStands (s : State) : Bool :=
  decide (s.mark.sampled = .rearmed) && s.executor.took && allAxes.all (fun n => !s.startsPulse n)

/-- The recognizer as a request finds it: a re-arm that a pulse of this tick can still undo has not come about yet. -/
def State.recognizerShown (s : State) : Recognizer :=
  if s.mark.sampled = .rearmed ∧ s.rearmStands = false then .held else s.mark.recognizer

/-! ### The commands of the field side (R71) -/

/-- Raw levels of A and B shown. -/
def Axis.show (x : Axis) (a b : Level) : Axis := { x with a := { x.a with raw := a }, b := { x.b with raw := b } }

/-- An axis input shows raw levels. Each line is sampled once a tick: levels shown after this tick's sample are seen in the next
one (log entry 9). Once a re-arm of this tick stands, levels that would start a pulse in it come after its sample (R122, log
entry 10). -/
def State.showAxis (s : State) (n : AxisId) : AxisInput → State
  | .ab a b entries channels =>
    let t := s.setAxis n ((s.axis n).show a b)
    if (s.axis n).sampledAB then t
    else if s.rearmStands && t.startsPulse n then
      let sampled := s.sampleAB n entries channels.events
      sampled.setAxis n ((sampled.axis n).show a b)
    else t.sampleAB n entries channels.events
  | .z z channels =>
    let x := s.axis n
    let t := s.setAxis n { x with z := { x.z with raw := z } }
    if x.sampledZ then t else t.sampleZ n channels.events

/-! ### The AXIS requests (R79 to R82, R84, R183) -/

/-- The state an AXIS_SETUP leaves an axis in, with its fault cause (R76). -/
def Axis.setMode (x : Axis) (mode : DecodeMode) : Axis :=
  if mode = .off then { x with mode := mode, state := .off, cause := .none }
  else if x.state = .off then { x with mode := mode, state := .counting }
  else { x with mode := mode }

/-- AXIS_SETUP (R80). The new mode and invert act on a comparison taken after it in the tick; the new filter acts from the next
tick's sample in both orders (R89). -/
def axisSetupBody (p : PortId) (_ : Session) (payload : List Byte) (s : State) : Answer := do
  let n ← idField 6 payload 0
  let mode ← codeField decodeMode? payload 1
  let invert ← flagField payload 2
  let filter := natAt payload 3 1
  require (decide (filter ≤ 15)) .outOfRange
  requireOwner s p (.axis n)
  let x := { (s.axis n).setMode mode with invert := invert, filter := filter }
  return ([x.state.code], s.setAxis n x)

/-- The span check of AXIS_SPAN against the count as it stands (R79). -/
def spanOk (x : Axis) (span : Nat) : Bool :=
  decide (span ≠ 1 ∧ span ≤ Config.maxSpan) && (decide (span = 0) || decide (0 ≤ x.count ∧ x.count < span))

/-- AXIS_SPAN (R79). -/
def axisSpanBody (p : PortId) (_ : Session) (payload : List Byte) (s : State) : Answer := do
  let n ← idField 6 payload 0
  let span := natAt payload 1 4
  let x := s.axis n
  require (spanOk x span) .outOfRange
  requireOwner s p (.axis n)
  return (bytesOfNat 4 span ++ bytesOfCount x.count ++ bytesOfNat 2 x.turns.toNat,
          (s.setAxis n { x with span := span }).offer n .quiet [])

/-- The count set by a host: turns becomes 0 in modulo mode and is kept in linear mode (R81, R82). -/
def Axis.setCount (x : Axis) (v : Int) : Axis := { x with count := v, turns := if x.span = 0 then x.turns else 0 }

/-- AXIS_PRESET (R81). -/
def axisPresetBody (p : PortId) (_ : Session) (payload : List Byte) (s : State) : Answer := do
  let n ← idField 6 payload 0
  let v := countAt payload 1
  let x := s.axis n
  require (x.inRange v) .outOfRange
  requireOwner s p (.axis n)
  require (decide (x.state ≠ .faulted)) .wrongState
  let y := x.setCount v
  return (bytesOfCount y.count ++ bytesOfNat 2 y.turns.toNat, (s.setAxis n y).offer n .quiet [])

/-- AXIS_CLEAR_FAULT (R82). -/
def axisClearFaultBody (p : PortId) (_ : Session) (payload : List Byte) (s : State) : Answer := do
  let n ← idField 6 payload 0
  let v := countAt payload 1
  let x := s.axis n
  require (x.inRange v) .outOfRange
  requireOwner s p (.axis n)
  require (decide (x.state = .faulted)) .wrongState
  let y := { x.setCount v with state := .counting, cause := .none }
  return (bytesOfCount y.count ++ bytesOfNat 2 y.turns.toNat, (s.setAxis n y).offer n .quiet [])

/-- The CLIPPED bit beside a count of axis `n` in a response made at stamp `t`: in NARROW form the flag of R85, in WIDE form,
where no rule states it, a free value (log entry 32). -/
def clippedBit (narrowForm : Bool) (t : Stamp) (n : AxisId) (count : Int) : Bool :=
  if narrowForm then clipped count else Config.wideClipped t.tick t.epoch n

/-- The count byte of AXIS_READ (R183): bit 0 is CLIPPED and bit 1 says that turns is present. R183 says nothing of bits 7 to 2:
they are a free value (log entry 31). -/
def countByte (t : Stamp) (n : AxisId) (clip modulo : Bool) : Byte :=
  Config.countByteRest t.tick t.epoch n ++ BitVec.ofBool modulo ++ BitVec.ofBool clip

/-- The AXIS_READ response of axis `n`, read at stamp `t` (R84, R183). -/
def Axis.readBytes (x : Axis) (narrowForm : Bool) (t : Stamp) (n : AxisId) : List Byte :=
  let modulo := decide (x.span ≠ 0)
  [x.mode.code, byteOfFlag x.invert, byteOfNat x.filter] ++ bytesOfNat 4 x.span ++
    [x.state.code, x.cause.code, countByte t n (clippedBit narrowForm t n x.count) modulo] ++
    (if narrowForm then bytesOfNarrow (narrow x.count) else bytesOfCount x.count) ++
    (if modulo then bytesOfNat 2 x.turns.toNat else []) ++ [byteOfNat x.phaseErrors]

/-- AXIS_READ (R84). -/
def axisReadBody (_ : PortId) (_ : Session) (payload : List Byte) (s : State) : Answer := do
  let n ← idField 6 payload 0
  let narrowForm ← codeField narrowForm? payload 1
  return ((s.axis n).readBytes narrowForm s.stamp n, s)

/-- The value entries of a SNAP response in a form, sampled at stamp `t` (R183). -/
def valuesBytes (values : List ValueEntry) (narrowForm : Bool) (t : Stamp) : List Byte :=
  [byteOfNat values.length] ++
    values.flatMap (fun v => if narrowForm then v.narrowBytes else v.wideBytes (clippedBit narrowForm t v.axis v.count))

/-- SNAP (R86): one sample, given in the response; with the log flag set it is also handed to the log, which keeps the wide
counts. -/
def snapBody (p : PortId) (_ : Session) (payload : List Byte) (s : State) : Answer := do
  let set ← setField 6 1 payload 0
  let logged ← flagField payload 1
  let narrowForm ← codeField narrowForm? payload 2
  let values := s.sampleAxes set
  if logged then
    let out := s.capture { stamp := s.stamp, cause := .host p, values := values }
    return (s.stamp.bytes ++ outcomeBytes out.2 ++ valuesBytes values narrowForm s.stamp, out.1)
  else return (s.stamp.bytes ++ [outcomeNotLogged] ++ valuesBytes values narrowForm s.stamp, s)

/-! ### TIME_READ (R118, R184) -/

/-- The TIME_READ response (R118, R184). The line level is that of the tick as far as it has gone; the end of the tick puts the level
of the tick in its place (R122, `Port.withLevel`, log entry 14). -/
def State.timeBytes (s : State) : List Byte :=
  s.stamp.bytes ++ [s.time.align.code] ++
    (match s.time.align with
      | .idle => []
      | .armed => bytesOfNat 6 s.time.preload.toNat) ++
    [byteOfNat s.mark.captureSet.toNat, byteOfFlag s.mark.notify, s.mark.drive.code, byteOfNat s.mark.remaining,
     levelCode s.mark.tickLevel, s.recognizerShown.code]

/-- TIME_READ (R118). -/
def timeReadBody (_ : PortId) (_ : Session) (_ : List Byte) (s : State) : Answer := .ok (s.timeBytes, s)

def timeReadServer : Server := sessionRequest 0 timeReadBody
def axisSetupServer : Server := sessionRequest 4 axisSetupBody
def axisSpanServer : Server := sessionRequest 5 axisSpanBody
def axisPresetServer : Server := sessionRequest 6 axisPresetBody
def axisClearFaultServer : Server := sessionRequest 6 axisClearFaultBody
def axisReadServer : Server := sessionRequest 2 axisReadBody
def snapServer : Server := sessionRequest 3 snapBody

end Sys2Proof.Machine
end

