-- ==== Sys2Proof/Machine/Session.lean ====
section
/-! DEFINITION. Sessions, claims, parks and closes, DEVICE_RESET and expiry (chapter 7). -/

namespace Sys2Proof.Machine

/-! ### Parks (R147) -/

/-- The park of a resource, which has lost its owner: what its chapter states (R68, R90, R113, R114, R130). -/
def State.park (s : State) : Resource → State
  | .axis _ => s
  | .channel c => s.setChannel c (s.channel c).disarmed
  | .entry e => s.replaceEntry e (s.entry e).parked
  | .gate g => s.setGate g (s.gate g).parked
  | .mark => s.setTime { s.time with align := .idle, preload := 0 }

/-- A resource given up: the owner is cleared, then the resource is parked (R138, R147). -/
def State.giveUp (s : State) (r : Resource) : State := (s.setOwner r none).park r

/-! ### The close of a session (R138, R139) -/

/-- Give up a resource if the port's session owns it. -/
def State.giveUpOwned (p : PortId) (s : State) (r : Resource) : State := if s.owns p r then s.giveUp r else s

/-- The close of a port's session: its resources cleared and parked; its reader, its event records and its entry gone (R138). -/
def State.closeSession (s : State) (p : PortId) : State := (allResources.foldl (State.giveUpOwned p) s).setSession p none

/-- The close of a port's session with reason EXPIRED: its queues are discarded, and EXPIRED is set (R138, R139). -/
def State.expire (s : State) (p : PortId) : State :=
  let t := (s.closeSession p).discardQueues p 0
  t.setPort p { t.port p with expired := true }

/-- The expiry of a port's session, when it is due (R135). When it is not due, or cannot come at this point of a tick that has
given the edge of the own pulse (log entry 10), nothing happens. -/
def State.takeExpiry (s : State) (p : PortId) : State :=
  if s.expiryDue p && !s.expiryBarred p then s.expire p else s

/-! ### OPEN, CLOSE, PING, DEVICE_INFO (R133, R136, R137, R141, R182) -/

/-- OPEN, the one request that step 1 does not refuse (R133, R173). -/
def openServer : Server := fun p payload s => do
  require (decide (payload.length = 3)) .badLength
  let rank ← idField 4 payload 0
  require (decide (s.session p = none)) .haveSession
  require (!s.rankHeld rank) .rankInUse
  let limit : BitVec 16 := BitVec.ofNat 16 (natAt payload 1 2)
  let t := s.setSession p (some { rank := rank, idleLimit := limit, elapsed := 0, mask := BitVec.allOnes 11,
                                  records := EventRecords.empty, reader := none })
  return ([byteOfNat p, byteOfNat rank] ++ bytesOfNat 2 limit.toNat ++ [byteOfNat t.ranksInUse], t)

/-- CLOSE: the session closes with reason CLOSED; the queues are kept (R137). The deposit of its response and the close are one
happening on different state, so their order inside it does not show. -/
def closeBody (p : PortId) (_ : Session) (_ : List Byte) (s : State) : Answer := .ok ([], s.closeSession p)

/-- The idle remaining of PING in whole milliseconds; 65 535 when the limit is 0 (R136). -/
def Session.idleRemaining (ses : Session) : Nat :=
  if ses.idleLimit = 0 then 65535 else (ses.limitTicks - ses.elapsed) / Config.ticksPerMillisecond

/-- The number of resources a port's session owns (R136). -/
def State.claimsHeld (s : State) (p : PortId) : Nat := (allResources.filter (s.owns p)).length

/-- PING (R136). -/
def pingBody (p : PortId) (ses : Session) (_ : List Byte) (s : State) : Answer :=
  .ok ([byteOfNat p, byteOfNat ses.rank] ++ bytesOfNat 2 ses.idleLimit.toNat ++ bytesOfNat 2 ses.idleRemaining ++
         bytesOfNat 2 ses.mask.toNat ++
         [byteOfNat s.ranksInUse, byteOfFlag ses.reader.isSome, byteOfNat (s.claimsHeld p)], s)

/-- The DEVICE_INFO response (R141, R182). -/
def deviceInfoBytes : List Byte :=
  bytesOfNat 2 Config.partCode ++ [byteOfNat Config.revision, 4, 6, 8, 8, 6, 24, 8, 47] ++ bytesOfNat 2 Config.logCapacity ++
    [byteOfNat Config.maxOutstanding, byteOfNat Config.maxRequestPayload, byteOfNat Config.maxResponsePayload]

/-- DEVICE_INFO (R141). -/
def deviceInfoBody (_ : PortId) (_ : Session) (_ : List Byte) (s : State) : Answer := .ok (deviceInfoBytes, s)

/-! ### DEVICE_RESET (R142, R143) -/

/-- An axis after DEVICE_RESET: the values of R91, with the filtered lines and this tick's samples kept; filter 0 acts from the next
tick's sample (R91, log entry 34). -/
def Axis.deviceReset (x : Axis) : Axis :=
  { Axis.reset with sampleFilter := x.sampleFilter, a := x.a, b := x.b, z := x.z, sampledAB := x.sampledAB, sampledZ := x.sampledZ }

/-- A trigger line after DEVICE_RESET: filter 0, which acts from the next tick's sample, the line kept (R69, log entry 34). -/
def TrigLine.deviceReset (x : TrigLine) : TrigLine := { x with filter := 0 }

/-- The MARK unit after DEVICE_RESET: set, notify flag and drive as R131 states; the recognizer with its run kept. -/
def MarkUnit.deviceReset (m : MarkUnit) : MarkUnit := { m.released with captureSet := 0, notify := false }

/-- The capture log after DEVICE_RESET: emptied by setting the tail to the head; the numbering goes on (R23). -/
def CaptureLog.deviceReset (l : CaptureLog) : CaptureLog := { records := [], head := l.head, tail := l.head, drops := 0 }

/-- The blocks set to their initial values (R142, step 4). -/
def State.resetBlocks (s : State) : State :=
  { s with
    axes := Bank.mapAll s.axes Axis.deviceReset
    lines := Bank.mapAll s.lines TrigLine.deviceReset
    channels := Vector.replicate 8 Channel.reset
    entries := Vector.replicate 24 Entry.reset
    gates := Vector.replicate 8 Gate.reset
    time := { s.time with align := .idle, preload := 0 }
    mark := s.mark.deviceReset
    log := s.log.deviceReset }

/-- Close every open session (R142, step 3). -/
def State.closeAll (s : State) : State :=
  allPorts.foldl (fun t p => if (t.session p).isSome then t.closeSession p else t) s

/-- DEVICE_RESET, from a session of rank 3 alone (R142): its response, and steps 3 and 4. -/
def deviceResetBody (_ : PortId) (ses : Session) (_ : List Byte) (s : State) : Answer := do
  require (decide (ses.rank = 3)) .notPermitted
  return (s.stamp.bytes ++ bytesOfNat 4 s.log.head.toNat, s.closeAll.resetBlocks)

/-! ### Claims (R145 to R148, R182) -/

/-- CLAIM (R145, R146). -/
def claimBody (p : PortId) (ses : Session) (payload : List Byte) (s : State) : Answer := do
  let r ← resourceField payload 0
  let preempt ← flagField payload 2
  match s.owner r with
  | none => return ([qualifierGranted, 0], s.setOwner r (some p))
  | some q =>
    if q = p then return ([qualifierAlready, 0], s)
    else
      match s.session q with
      | none => .error .held
      | some other =>
        if preempt ∧ other.rank < ses.rank then
          return ([qualifierPreempted, s.ownerByte (some q)], (s.setOwner r (some p)).raiseTo q (.claimLost r))
        else .error .held

/-- RELEASE (R147). -/
def releaseBody (p : PortId) (_ : Session) (payload : List Byte) (s : State) : Answer := do
  let r ← resourceField payload 0
  requireOwner s p r
  return ([], s.giveUp r)

/-- WHO_OWNS, for one resource or for ALL, whose number byte is not examined (R148, R177). -/
def whoOwnsBody (_ : PortId) (_ : Session) (payload : List Byte) (s : State) : Answer :=
  if byteAt payload 0 = 0x0F then .ok (allResources.map (fun r => s.ownerByte (s.owner r)), s)
  else do
    let r ← resourceField payload 0
    return (r.nameBytes ++ [s.ownerByte (s.owner r)], s)

def closeServer : Server := sessionRequest 0 closeBody
def pingServer : Server := sessionRequest 0 pingBody
def deviceInfoServer : Server := sessionRequest 0 deviceInfoBody
def deviceResetServer : Server := sessionRequest 0 deviceResetBody

/-- The executor takes a DEVICE_RESET. When it is accepted, the queues are discarded once its response is deposited, with the
exception of that response (R142, steps 1 and 2; the steps are one happening, log entry 22). A capture already requested has been
taken at the log first: taken first, a DEVICE_RESET would have left it unrequested (R23, log entry 28). -/
def State.takeReset (s : State) (p : PortId) (f : Frame) : State :=
  if s.nextRequest = some (p, f) ∧ s.acceptsReset p f then (executorTakes p f deviceResetServer s.allReachLog).discardAll p
  else executorTakes p f deviceResetServer s

def claimServer : Server := sessionRequest 3 claimBody
def releaseServer : Server := sessionRequest 2 releaseBody
def whoOwnsServer : Server := sessionRequest 2 whoOwnsBody

end Sys2Proof.Machine
end

