-- ==== Sys2Proof/Machine/EventUnit.lean ====
section
/-! DEFINITION. The event requests (chapter 8). -/

namespace Sys2Proof.Machine

/-- The records with those of a kind cleared: count 0 and empty sets (R156). -/
def EventRecords.clearKind (r : EventRecords) : EventKind → EventRecords
  | .logLevel => { r with logLevel := 0 }
  | .logDrop => { r with logDrop := 0 }
  | .logLapped => { r with logLapped := 0 }
  | .trigFired => { r with trigFired := { count := 0, members := 0 } }
  | .trigIgnored => { r with trigIgnored := { count := 0, members := 0 } }
  | .burstEnd => { r with burstEnd := { count := 0, complete := 0, cut := 0 } }
  | .cmpHit => { r with cmpHit := { count := 0, members := 0 } }
  | .axisFault => { r with axisFault := { count := 0, members := 0 } }
  | .claimLost => { r with claimLost := { count := 0, members := 0 } }
  | .markSeen => { r with markSeen := 0 }
  | .aligned => { r with aligned := 0 }

/-- The records of the named kinds cleared, the others left (R156). -/
def EventRecords.clear (r : EventRecords) (kinds : KindSet) : EventRecords :=
  (allKinds.filter (fun k => inSet kinds k.index)).foldl EventRecords.clearKind r

/-- EVENT_MASK (R157). -/
def eventMaskBody (p : PortId) (ses : Session) (payload : List Byte) (s : State) : Answer := do
  let kinds ← setField 11 2 payload 0
  let new := { ses with mask := kinds }
  return (bytesOfNat 2 kinds.toNat ++ [byteOfFlag new.attention], s.setSession p (some new))

/-- EVENT_READ (R155). -/
def eventReadBody (_ : PortId) (ses : Session) (_ : List Byte) (s : State) : Answer :=
  .ok (bytesOfNat 2 ses.mask.toNat ++ [byteOfFlag ses.attention] ++ ses.records.block (BitVec.allOnes 11), s)

/-- EVENT_ACK: the named records copied into the response, then cleared, in one happening (R156). -/
def eventAckBody (p : PortId) (ses : Session) (payload : List Byte) (s : State) : Answer := do
  let kinds ← setField 11 2 payload 0
  let new := { ses with records := ses.records.clear kinds }
  return (bytesOfNat 2 kinds.toNat ++ [byteOfFlag new.attention] ++ ses.records.block kinds, s.setSession p (some new))

def eventMaskServer : Server := sessionRequest 2 eventMaskBody
def eventReadServer : Server := sessionRequest 0 eventReadBody
def eventAckServer : Server := sessionRequest 2 eventAckBody

end Sys2Proof.Machine
end

