-- ==== Sys2Proof/Machine/HostPort.lean ====
section
/-! DEFINITION. The host ports: transactions, the status byte, the judging and the acceptance of frames (chapter 9). -/

namespace Sys2Proof.Machine

/-- A blocked port sees its chip select high (R162). -/
def State.unblock (s : State) (p : PortId) : State :=
  let q := s.port p
  match q.receive with
  | .blocked => s.setPort p { q with receive := .idle }
  | .idle => s
  | .inTransaction _ => s

/-- The status byte of a port as it stands (R164). -/
def State.statusByte (s : State) (p : PortId) : StatusByte :=
  let q := s.port p
  { session := (s.session p).isSome, expired := q.expired, frameErr := q.frameErr, refused := q.refused,
    attn := s.attention p, pending := q.responses.length }

/-- A transaction begins on an IDLE port (R163). -/
def State.beginTransaction (s : State) (p : PortId) : State :=
  let q := s.port p
  match q.receive with
  | .idle =>
    s.setPort p { q with receive := .inTransaction { status := s.statusByte p, chosen := q.responses.head?, shown := false,
                                                     incoming := [], gone := none } }
  | .blocked => s
  | .inTransaction _ => s

/-- The bytes that a response no longer chosen has put on the line (R165, R170). -/
def Transaction.sent (t : Transaction) : List Byte :=
  match t.gone with
  | none => []
  | some (r, count) => r.bytes.take count

/-- The outgoing byte number `k` of a transaction: the status byte, the chosen response, then filler. Of a response no longer
chosen it is what has gone out of it (R163, R165, R170, R179). -/
def Transaction.outByte (t : Transaction) (k : Nat) : Byte :=
  if k = 0 then t.status.toByte
  else
    match t.chosen with
    | none => t.sent.getD (k - 1) filler
    | some r => r.bytes.getD (k - 1) filler

/-- The byte a port shifts out as number `k` of the transaction in progress, as it now stands (R163). -/
def Port.outByte (q : Port) (k : Nat) : Option Byte :=
  match q.receive with
  | .blocked => none
  | .idle => none
  | .inTransaction t => some (t.outByte k)

/-- The flags that a status byte carried are cleared at its eighth bit (R164). DESIGN CHOICE (log entry 33): EXPIRED, carried set and
set once more by an expiry between the forming of the byte and its eighth bit, is cleared too. -/
def Port.clearShown (q : Port) (b : StatusByte) : Port :=
  { q with expired := q.expired && !b.expired, frameErr := q.frameErr && !b.frameErr, refused := q.refused && !b.refused }

/-- The status byte has been shifted out whole, while the byte `received` came in (R163, R164). -/
def State.showStatus (s : State) (p : PortId) (received : Byte) : State :=
  let q := s.port p
  match q.receive with
  | .blocked => s
  | .idle => s
  | .inTransaction t =>
    if t.shown then s
    else s.setPort p { q.clearShown t.status with receive := .inTransaction { t with shown := true,
                                                                                      incoming := t.incoming ++ [received] } }

/-- The number of bytes clocked when the last byte of the chosen response is out: the status byte and the frame (R163). -/
def Response.clocked (r : Response) : Nat := 1 + r.bytes.length

/-- The chosen response `r` leaves the head of the queue; the bytes after it are filler (R165). -/
def Port.delivered (q : Port) (t : Transaction) (r : Response) : Port :=
  { q with responses := q.responses.tail, receive := .inTransaction { t with chosen := none, gone := some (r, r.bytes.length) } }

/-- The last byte of the chosen response has been shifted out, while the bytes `received` came in after the status byte. It takes
place when exactly as many bytes have then been clocked as the status byte and the frame have (R165). -/
def State.deliverResponse (s : State) (p : PortId) (received : List Byte) : State :=
  let q := s.port p
  match q.receive with
  | .blocked => s
  | .idle => s
  | .inTransaction t =>
    match t.chosen with
    | none => s
    | some r =>
      let incoming := t.incoming ++ received
      if t.shown ∧ incoming.length = r.clocked then s.setPort p (q.delivered { t with incoming := incoming } r) else s

/-! ### The line level of a TIME_READ answered in this tick (R118, R122, R184; log entry 14) -/

/-- The level of the tick put in place in an answer to a TIME_READ that was taken in the tick: the last byte but one of the
payload (R184). -/
def Response.withLevel (level : Level) (r : Response) : Response :=
  if r.levelOpen then { r with payload := r.payload.set (r.payload.length - 2) (levelCode level), levelOpen := false } else r

/-- The level put in place in the responses of a transaction record. -/
def ReceiveState.withLevel (level : Level) : ReceiveState → ReceiveState
  | .blocked => .blocked
  | .idle => .idle
  | .inTransaction t =>
    .inTransaction { t with chosen := t.chosen.map (Response.withLevel level)
                            gone := t.gone.map (fun g => (g.1.withLevel level, g.2)) }

/-- The level put in place wherever a port holds the answer. -/
def Port.withLevel (level : Level) (q : Port) : Port :=
  { q with responses := q.responses.map (Response.withLevel level), receive := q.receive.withLevel level }

/-! ### The end of a transaction (R166 to R168) -/

/-- What the incoming bytes of a transaction are (R166, R167). -/
inductive Judgement where
  | noRequest
  | malformed
  | valid (f : Frame)
  deriving DecidableEq, Repr

/-- The judging of the incoming bytes (R166, R167). -/
def judge (bytes : List Byte) : Judgement :=
  let len := natAt bytes 2 1
  if bytes = [] ∨ byteAt bytes 0 = noRequestCode then .noRequest
  else if bytes.length < 4 then .malformed
  else if Config.maxRequestPayload < len then .malformed
  else if bytes.length < len + 4 then .malformed
  else if byteAt bytes (len + 3) ≠ crc8 (bytes.take (len + 3)) then .malformed
  else .valid { command := byteAt bytes 0, tag := byteAt bytes 1, payload := (bytes.drop 3).take len }

/-- The idle timer of a port's session reloaded, if it has one (R134). -/
def State.reloadTimer (s : State) (p : PortId) : State :=
  match s.session p with
  | none => s
  | some ses => s.setSession p (some ses.reloaded)

/-- A port takes a valid frame into its queue, or discards it with REFUSED when 4 are outstanding (R168). -/
def Port.accept (q : Port) (f : Frame) : Port :=
  if q.outstanding < Config.maxOutstanding then { q with requests := q.requests ++ [{ frame := f, joinedNow := true }] }
  else { q with refused := true }

/-- What clocking the incoming bytes has brought about by the end of a transaction, if no command said so before: with one byte
in, the status byte went out; with enough bytes in, the chosen response was delivered (R164, R165, log entry 2). -/
def Port.settle (q : Port) (t : Transaction) (incoming : List Byte) : Port :=
  let shown := if !t.shown ∧ incoming ≠ [] then q.clearShown t.status else q
  match t.chosen with
  | none => shown
  | some r => if r.clocked ≤ incoming.length then { shown with responses := shown.responses.tail } else shown

/-- A port back in IDLE at the end of a transaction in which the bytes `incoming` came in (R163). -/
def Port.ended (q : Port) (incoming : List Byte) : Port :=
  match q.receive with
  | .blocked => q
  | .idle => q
  | .inTransaction t => { q.settle t incoming with receive := .idle }

/-- A port is about to accept a valid frame: where its reload of the idle timer cannot come before the expiry that is due, the
expiry is taken first (R140, log entry 10). -/
def State.beforeFrame (s : State) (p : PortId) : State := if s.reloadBarred p then s.expire p else s

/-- A port ends its transaction and accepts the valid frame (R163, R168). -/
def State.acceptFrame (s : State) (p : PortId) (incoming : List Byte) (f : Frame) : State :=
  (s.setPort p (((s.port p).ended incoming).accept f)).reloadTimer p

/-- The transaction ends with the last bytes `received`: the frame is judged, and the port returns to IDLE (R163, R166 to
R168). -/
def State.endTransaction (s : State) (p : PortId) (received : List Byte) : State :=
  let q := s.port p
  match q.receive with
  | .blocked => s
  | .idle => s
  | .inTransaction t =>
    let incoming := t.incoming ++ received
    match judge incoming with
    | .noRequest => s.setPort p (q.ended incoming)
    | .malformed => s.setPort p { q.ended incoming with frameErr := true }
    | .valid f => (s.beforeFrame p).acceptFrame p incoming f

end Sys2Proof.Machine
end

