-- ==== Sys2Proof/Machine/Requests.lean ====
section
/-! DEFINITION. The requests by command code (R182 to R188), and the meaning of every command that is a taking by the executor
(R171 to R173). -/

namespace Sys2Proof.Machine

/-- Every request with its command code (section 10.4). -/
def requestTable : List (Byte × Server) :=
  [(codeOpen, openServer), (codeClose, closeServer), (codePing, pingServer),
   (codeDeviceInfo, deviceInfoServer), (codeDeviceReset, deviceResetServer), (codeClaim, claimServer),
   (codeRelease, releaseServer), (codeWhoOwns, whoOwnsServer), (codeAxisSetup, axisSetupServer),
   (codeAxisSpan, axisSpanServer), (codeAxisPreset, axisPresetServer), (codeAxisClearFault, axisClearFaultServer),
   (codeAxisRead, axisReadServer), (codeSnap, snapServer), (codeTimeRead, timeReadServer),
   (codeAlignArm, alignArmServer), (codeAlignCancel, alignCancelServer), (codeMarkSetup, markSetupServer),
   (codeMarkPulse, markPulseServer), (codeTrigSetup, trigSetupServer), (codeTrigLineFilter, trigLineFilterServer),
   (codeTrigArm, trigArmServer), (codeTrigDisarm, trigDisarmServer), (codeTrigFire, trigFireServer),
   (codeTrigStatus, trigStatusServer), (codeLogSubscribe, logSubscribeServer), (codeLogUnsubscribe, logUnsubscribeServer),
   (codeLogFetch, logFetchServer), (codeLogRelease, logReleaseServer), (codeLogStatus, logStatusServer),
   (codeCmpSetup, cmpSetupServer), (codeCmpEnable, cmpEnableServer), (codeCmpDisable, cmpDisableServer),
   (codeCmpStatus, cmpStatusServer), (codeGateSetup, gateSetupServer), (codeGateSet, gateSetServer),
   (codeGateStatus, gateStatusServer), (codeEventMask, eventMaskServer), (codeEventRead, eventReadServer),
   (codeEventAck, eventAckServer)]

/-- The server of a command code; a code that names no request has `unknownAnswer` (R173). -/
def serverOf (code : Byte) : Server := (requestTable.lookup code).getD unknownAnswer

/-- The executor takes the request the rotation gives in this tick, whatever it is; with none waiting, nothing happens (R171). -/
def State.takeNextRequest (s : State) : State :=
  match s.nextRequest with
  | none => s
  | some (p, f) => if f.command = codeDeviceReset then s.takeReset p f else executorTakes p f (serverOf f.command) s

/-- OPEN (R133): the executor takes this request of this port when the rotation gives it (R171, R172). -/
def execOpenSession (p : PortId) (tag : Byte) (payload : List Byte) (s : State) : Host.Outcome State Fault Refusal :=
  .next (executorTakes p { command := codeOpen, tag := tag, payload := payload } openServer s)

/-- CLOSE (R137): the executor takes this request of this port when the rotation gives it (R171, R172). -/
def execCloseSession (p : PortId) (tag : Byte) (payload : List Byte) (s : State) : Host.Outcome State Fault Refusal :=
  .next (executorTakes p { command := codeClose, tag := tag, payload := payload } closeServer s)

/-- PING (R136): the executor takes this request of this port when the rotation gives it (R171, R172). -/
def execPing (p : PortId) (tag : Byte) (payload : List Byte) (s : State) : Host.Outcome State Fault Refusal :=
  .next (executorTakes p { command := codePing, tag := tag, payload := payload } pingServer s)

/-- DEVICE_INFO (R141): the executor takes this request of this port when the rotation gives it (R171, R172). -/
def execDeviceInfo (p : PortId) (tag : Byte) (payload : List Byte) (s : State) : Host.Outcome State Fault Refusal :=
  .next (executorTakes p { command := codeDeviceInfo, tag := tag, payload := payload } deviceInfoServer s)

/-- DEVICE_RESET (R142): the executor takes this request of this port when the rotation gives it (R171, R172). -/
def execDeviceReset (p : PortId) (tag : Byte) (payload : List Byte) (s : State) : Host.Outcome State Fault Refusal :=
  .next (s.takeReset p { command := codeDeviceReset, tag := tag, payload := payload })

/-- CLAIM (R145, R146): the executor takes this request of this port when the rotation gives it (R171, R172). -/
def execClaim (p : PortId) (tag : Byte) (payload : List Byte) (s : State) : Host.Outcome State Fault Refusal :=
  .next (executorTakes p { command := codeClaim, tag := tag, payload := payload } claimServer s)

/-- RELEASE (R147): the executor takes this request of this port when the rotation gives it (R171, R172). -/
def execRelease (p : PortId) (tag : Byte) (payload : List Byte) (s : State) : Host.Outcome State Fault Refusal :=
  .next (executorTakes p { command := codeRelease, tag := tag, payload := payload } releaseServer s)

/-- WHO_OWNS (R148): the executor takes this request of this port when the rotation gives it (R171, R172). -/
def execWhoOwns (p : PortId) (tag : Byte) (payload : List Byte) (s : State) : Host.Outcome State Fault Refusal :=
  .next (executorTakes p { command := codeWhoOwns, tag := tag, payload := payload } whoOwnsServer s)

/-- AXIS_SETUP (R80): the executor takes this request of this port when the rotation gives it (R171, R172). -/
def execAxisSetup (p : PortId) (tag : Byte) (payload : List Byte) (s : State) : Host.Outcome State Fault Refusal :=
  .next (executorTakes p { command := codeAxisSetup, tag := tag, payload := payload } axisSetupServer s)

/-- AXIS_SPAN (R79): the executor takes this request of this port when the rotation gives it (R171, R172). -/
def execAxisSpan (p : PortId) (tag : Byte) (payload : List Byte) (s : State) : Host.Outcome State Fault Refusal :=
  .next (executorTakes p { command := codeAxisSpan, tag := tag, payload := payload } axisSpanServer s)

/-- AXIS_PRESET (R81): the executor takes this request of this port when the rotation gives it (R171, R172). -/
def execAxisPreset (p : PortId) (tag : Byte) (payload : List Byte) (s : State) : Host.Outcome State Fault Refusal :=
  .next (executorTakes p { command := codeAxisPreset, tag := tag, payload := payload } axisPresetServer s)

/-- AXIS_CLEAR_FAULT (R82): the executor takes this request of this port when the rotation gives it (R171, R172). -/
def execAxisClearFault (p : PortId) (tag : Byte) (payload : List Byte) (s : State) : Host.Outcome State Fault Refusal :=
  .next (executorTakes p { command := codeAxisClearFault, tag := tag, payload := payload } axisClearFaultServer s)

/-- AXIS_READ (R84): the executor takes this request of this port when the rotation gives it (R171, R172). -/
def execAxisRead (p : PortId) (tag : Byte) (payload : List Byte) (s : State) : Host.Outcome State Fault Refusal :=
  .next (executorTakes p { command := codeAxisRead, tag := tag, payload := payload } axisReadServer s)

/-- SNAP (R86): the executor takes this request of this port when the rotation gives it (R171, R172). -/
def execSnap (p : PortId) (tag : Byte) (payload : List Byte) (s : State) : Host.Outcome State Fault Refusal :=
  .next (executorTakes p { command := codeSnap, tag := tag, payload := payload } snapServer s)

/-- TIME_READ (R118): the executor takes this request of this port when the rotation gives it (R171, R172). -/
def execTimeRead (p : PortId) (tag : Byte) (payload : List Byte) (s : State) : Host.Outcome State Fault Refusal :=
  .next (executorTakes p { command := codeTimeRead, tag := tag, payload := payload } timeReadServer s)

/-- ALIGN_ARM (R119): the executor takes this request of this port when the rotation gives it (R171, R172). -/
def execAlignArm (p : PortId) (tag : Byte) (payload : List Byte) (s : State) : Host.Outcome State Fault Refusal :=
  .next (executorTakes p { command := codeAlignArm, tag := tag, payload := payload } alignArmServer s)

/-- ALIGN_CANCEL (R119): the executor takes this request of this port when the rotation gives it (R171, R172). -/
def execAlignCancel (p : PortId) (tag : Byte) (payload : List Byte) (s : State) : Host.Outcome State Fault Refusal :=
  .next (executorTakes p { command := codeAlignCancel, tag := tag, payload := payload } alignCancelServer s)

/-- MARK_SETUP (R125): the executor takes this request of this port when the rotation gives it (R171, R172). -/
def execMarkSetup (p : PortId) (tag : Byte) (payload : List Byte) (s : State) : Host.Outcome State Fault Refusal :=
  .next (executorTakes p { command := codeMarkSetup, tag := tag, payload := payload } markSetupServer s)

/-- MARK_PULSE (R126): the executor takes this request of this port when the rotation gives it (R171, R172). -/
def execMarkPulse (p : PortId) (tag : Byte) (payload : List Byte) (s : State) : Host.Outcome State Fault Refusal :=
  .next (executorTakes p { command := codeMarkPulse, tag := tag, payload := payload } markPulseServer s)

/-- TRIG_SETUP (R47): the executor takes this request of this port when the rotation gives it (R171, R172). -/
def execTrigSetup (p : PortId) (tag : Byte) (payload : List Byte) (s : State) : Host.Outcome State Fault Refusal :=
  .next (executorTakes p { command := codeTrigSetup, tag := tag, payload := payload } trigSetupServer s)

/-- TRIG_LINE_FILTER (R46): the executor takes this request of this port when the rotation gives it (R171, R172). -/
def execTrigLineFilter (p : PortId) (tag : Byte) (payload : List Byte) (s : State) : Host.Outcome State Fault Refusal :=
  .next (executorTakes p { command := codeTrigLineFilter, tag := tag, payload := payload } trigLineFilterServer s)

/-- TRIG_ARM (R48): the executor takes this request of this port when the rotation gives it (R171, R172). -/
def execTrigArm (p : PortId) (tag : Byte) (payload : List Byte) (s : State) : Host.Outcome State Fault Refusal :=
  .next (executorTakes p { command := codeTrigArm, tag := tag, payload := payload } trigArmServer s)

/-- TRIG_DISARM (R56): the executor takes this request of this port when the rotation gives it (R171, R172). -/
def execTrigDisarm (p : PortId) (tag : Byte) (payload : List Byte) (s : State) : Host.Outcome State Fault Refusal :=
  .next (executorTakes p { command := codeTrigDisarm, tag := tag, payload := payload } trigDisarmServer s)

/-- TRIG_FIRE (R53): the executor takes this request of this port when the rotation gives it (R171, R172). -/
def execTrigFire (p : PortId) (tag : Byte) (payload : List Byte) (s : State) : Host.Outcome State Fault Refusal :=
  .next (executorTakes p { command := codeTrigFire, tag := tag, payload := payload } trigFireServer s)

/-- TRIG_STATUS (R61): the executor takes this request of this port when the rotation gives it (R171, R172). -/
def execTrigStatus (p : PortId) (tag : Byte) (payload : List Byte) (s : State) : Host.Outcome State Fault Refusal :=
  .next (executorTakes p { command := codeTrigStatus, tag := tag, payload := payload } trigStatusServer s)

/-- LOG_SUBSCRIBE (R27, R28): the executor takes this request of this port when the rotation gives it (R171, R172). -/
def execLogSubscribe (p : PortId) (tag : Byte) (payload : List Byte) (s : State) : Host.Outcome State Fault Refusal :=
  .next (executorTakes p { command := codeLogSubscribe, tag := tag, payload := payload } logSubscribeServer s)

/-- LOG_UNSUBSCRIBE (R29): the executor takes this request of this port when the rotation gives it (R171, R172). -/
def execLogUnsubscribe (p : PortId) (tag : Byte) (payload : List Byte) (s : State) : Host.Outcome State Fault Refusal :=
  .next (executorTakes p { command := codeLogUnsubscribe, tag := tag, payload := payload } logUnsubscribeServer s)

/-- LOG_FETCH (R34 to R36): the executor takes this request of this port when the rotation gives it (R171, R172). -/
def execLogFetch (p : PortId) (tag : Byte) (payload : List Byte) (s : State) : Host.Outcome State Fault Refusal :=
  .next (executorTakes p { command := codeLogFetch, tag := tag, payload := payload } logFetchServer s)

/-- LOG_RELEASE (R37, R38): the executor takes this request of this port when the rotation gives it (R171, R172). -/
def execLogRelease (p : PortId) (tag : Byte) (payload : List Byte) (s : State) : Host.Outcome State Fault Refusal :=
  .next (executorTakes p { command := codeLogRelease, tag := tag, payload := payload } logReleaseServer s)

/-- LOG_STATUS (R21): the executor takes this request of this port when the rotation gives it (R171, R172). -/
def execLogStatus (p : PortId) (tag : Byte) (payload : List Byte) (s : State) : Host.Outcome State Fault Refusal :=
  .next (executorTakes p { command := codeLogStatus, tag := tag, payload := payload } logStatusServer s)

/-- CMP_SETUP (R95, R96): the executor takes this request of this port when the rotation gives it (R171, R172). -/
def execCmpSetup (p : PortId) (tag : Byte) (payload : List Byte) (s : State) : Host.Outcome State Fault Refusal :=
  .next (executorTakes p { command := codeCmpSetup, tag := tag, payload := payload } cmpSetupServer s)

/-- CMP_ENABLE (R97): the executor takes this request of this port when the rotation gives it (R171, R172). -/
def execCmpEnable (p : PortId) (tag : Byte) (payload : List Byte) (s : State) : Host.Outcome State Fault Refusal :=
  .next (executorTakes p { command := codeCmpEnable, tag := tag, payload := payload } cmpEnableServer s)

/-- CMP_DISABLE (R98): the executor takes this request of this port when the rotation gives it (R171, R172). -/
def execCmpDisable (p : PortId) (tag : Byte) (payload : List Byte) (s : State) : Host.Outcome State Fault Refusal :=
  .next (executorTakes p { command := codeCmpDisable, tag := tag, payload := payload } cmpDisableServer s)

/-- CMP_STATUS (R103): the executor takes this request of this port when the rotation gives it (R171, R172). -/
def execCmpStatus (p : PortId) (tag : Byte) (payload : List Byte) (s : State) : Host.Outcome State Fault Refusal :=
  .next (executorTakes p { command := codeCmpStatus, tag := tag, payload := payload } cmpStatusServer s)

/-- GATE_SETUP (R109): the executor takes this request of this port when the rotation gives it (R171, R172). -/
def execGateSetup (p : PortId) (tag : Byte) (payload : List Byte) (s : State) : Host.Outcome State Fault Refusal :=
  .next (executorTakes p { command := codeGateSetup, tag := tag, payload := payload } gateSetupServer s)

/-- GATE_SET (R110): the executor takes this request of this port when the rotation gives it (R171, R172). -/
def execGateSet (p : PortId) (tag : Byte) (payload : List Byte) (s : State) : Host.Outcome State Fault Refusal :=
  .next (executorTakes p { command := codeGateSet, tag := tag, payload := payload } gateSetServer s)

/-- GATE_STATUS (R111): the executor takes this request of this port when the rotation gives it (R171, R172). -/
def execGateStatus (p : PortId) (tag : Byte) (payload : List Byte) (s : State) : Host.Outcome State Fault Refusal :=
  .next (executorTakes p { command := codeGateStatus, tag := tag, payload := payload } gateStatusServer s)

/-- EVENT_MASK (R157): the executor takes this request of this port when the rotation gives it (R171, R172). -/
def execEventMask (p : PortId) (tag : Byte) (payload : List Byte) (s : State) : Host.Outcome State Fault Refusal :=
  .next (executorTakes p { command := codeEventMask, tag := tag, payload := payload } eventMaskServer s)

/-- EVENT_READ (R155): the executor takes this request of this port when the rotation gives it (R171, R172). -/
def execEventRead (p : PortId) (tag : Byte) (payload : List Byte) (s : State) : Host.Outcome State Fault Refusal :=
  .next (executorTakes p { command := codeEventRead, tag := tag, payload := payload } eventReadServer s)

/-- EVENT_ACK (R156): the executor takes this request of this port when the rotation gives it (R171, R172). -/
def execEventAck (p : PortId) (tag : Byte) (payload : List Byte) (s : State) : Host.Outcome State Fault Refusal :=
  .next (executorTakes p { command := codeEventAck, tag := tag, payload := payload } eventAckServer s)

/-- UNKNOWN_COMMAND (R173): a request whose command code names no request is answered UNKNOWN, or NO_SESSION on a port without a
session. A command with a code that names a request is not this happening. -/
def execUnknownCommand (p : PortId) (code tag : Byte) (payload : List Byte) (s : State) : Host.Outcome State Fault Refusal :=
  if (requestTable.lookup code).isSome then .next s
  else .next (executorTakes p { command := code, tag := tag, payload := payload } unknownAnswer s)

end Sys2Proof.Machine
end

