-- ==== Sys2Proof/Machine/Tick.lean ====
section
/-! DEFINITION. The tick, pin reset, and the meaning of every command that is a happening of the field side, of a port or of
time. -/

namespace Sys2Proof.Machine

/-! ### The end of a tick: what fell due in it and was not yet taken is taken (log entry 2) -/

/-- The samples of A and B, and of Z, of every axis not yet taken in this tick (R71, R72). -/
def State.sampleAxesLeft (s : State) : State :=
  allAxes.foldl (fun t n =>
    let u := if (t.axis n).sampledAB then t else t.sampleAB n [] []
    if (u.axis n).sampledZ then u else u.sampleZ n []) s

/-- The samples of the trigger lines not yet taken in this tick (R45). -/
def State.sampleLinesLeft (s : State) : State :=
  allLines.foldl (fun t l => if (t.trigLine l).sampled then t else t.sampleTrigLine l []) s

/-- The burst steps due in this tick (R54). -/
def State.burstStepsLeft (s : State) : State := allChannels.foldl State.takeBurstStep s

/-- The gate pulses that end in this tick (R108). -/
def State.gatePulseEndsLeft (s : State) : State := allGates.foldl State.takeGatePulseEnd s

/-- The sessions that expire in this tick (R135). -/
def State.expiriesLeft (s : State) : State := allPorts.foldl State.takeExpiry s

/-- The expiries that had to wait for the executor (log entry 10). -/
def State.expiriesLast (s : State) : State := allPorts.foldl (fun t p => if t.expiryDue p then t.expire p else t) s

/-- The sample of the MARK line, last, after the drive changes of the tick (R122). -/
def State.sampleMarkLeft (s : State) : State := if s.mark.sampled = .notYet then s.sampleMark [] else s

/-- The end of a tick: every happening that the tick holds has been taken. In a tick that has given the edge of the own pulse, an
expiry may have to wait for the executor, and is taken after it (log entry 10); in every other tick the last two takings find
nothing. Every capture of the tick reaches the log in the tick (R9). -/
def State.finishTick (s : State) : State :=
  let fieldSide := s.takeMarkPulseEnd.sampleAxesLeft.sampleLinesLeft.burstStepsLeft.gatePulseEndsLeft.allReachLog
  fieldSide.expiriesLeft.takeNextRequest.expiriesLast.takeNextRequest.sampleMarkLeft.allReachLog

/-! ### The beginning of a tick -/

/-- An axis at the beginning of a tick: its lines may be sampled again, under the filter value that stands now (R71, R89). -/
def Axis.tick (x : Axis) : Axis := { x with sampleFilter := x.filter, sampledAB := false, sampledZ := false }

/-- A trigger line at the beginning of a tick: it may be sampled again, under the filter value that stands now (R45). -/
def TrigLine.tick (x : TrigLine) : TrigLine := { x with sampleFilter := x.filter, sampled := false }

/-- The MARK unit at the beginning of a tick: its drive counts, and the line may be sampled again (R122, R126). -/
def MarkUnit.tick (m : MarkUnit) : MarkUnit := { m.tickDrive with sampled := .notYet }

/-- A waiting request at the beginning of a tick: it did not join in this one (R171). -/
def Waiting.tick (w : Waiting) : Waiting := { w with joinedNow := false }

/-- A port at the beginning of a tick; an answer to a TIME_READ of the tick that has ended takes the level of that tick (R122). -/
def Port.tick (level : Level) (q : Port) : Port := { q.withLevel level with requests := q.requests.map Waiting.tick }

/-- The beginning of a tick: the tick count advances by one, wrapping (R116), and every countdown counts by one. -/
def State.beginTick (s : State) : State :=
  { s with
    time := { s.time with tick := s.time.tick + 1 }
    mark := s.mark.tick
    axes := Bank.mapAll s.axes Axis.tick
    lines := Bank.mapAll s.lines TrigLine.tick
    channels := Bank.mapAll s.channels Channel.tick
    gates := Bank.mapAll s.gates Gate.tick
    sessions := Bank.mapAll s.sessions (Option.map Session.tick)
    ports := Bank.mapAll s.ports (Port.tick s.mark.tickLevel)
    executor := { s.executor with took := false } }

/-! ### Pin reset (R22, R69, R71, R91, R115, R131, R132, R144, R162, R171) -/

/-- A line after pin reset: the raw pin stays as the field drives it (log entry 8). -/
def FilteredLine.pinReset (l : FilteredLine) : FilteredLine := { FilteredLine.reset with raw := l.raw }

/-- An axis after pin reset (R91). -/
def Axis.pinReset (x : Axis) : Axis := { Axis.reset with a := x.a.pinReset, b := x.b.pinReset, z := x.z.pinReset }

/-- A trigger line after pin reset (R69). -/
def TrigLine.pinReset (x : TrigLine) : TrigLine := { TrigLine.reset with line := x.line.pinReset }

/-- The part after pin reset: every block at its initial values; a capture under way has no outcome (R22); the levels that others
drive on the pins, and the commands that wait, are not the part's to reset (log entry 8); the count of the free values goes on
(log entry 26). -/
def State.pinReset (s : State) : State :=
  { State.reset with
    axes := Bank.mapAll s.axes Axis.pinReset
    lines := Bank.mapAll s.lines TrigLine.pinReset
    mark := { MarkUnit.reset with outside := s.mark.outside }
    discards := s.discards
    pending := s.pending }

/-! ### The meanings

A command that carries an order of the captures under way brings them to the log as its last part, also when its own happening is
not due (R9, log entries 1 and 3). -/

/-- PIN_RESET (R22 and the reset rule of each block). -/
def execPinReset (s : State) : Host.Outcome State Fault Refusal := .next s.pinReset

/-- PORT_UNBLOCK (R162). -/
def execPortUnblock (p : PortId) (s : State) : Host.Outcome State Fault Refusal := .next (s.unblock p)

/-- TRANSACTION_BEGIN (R163). -/
def execTransactionBegin (p : PortId) (s : State) : Host.Outcome State Fault Refusal := .next (s.beginTransaction p)

/-- STATUS_BYTE_SHIFTED (R164). -/
def execStatusByteShifted (p : PortId) (received : Byte) (s : State) : Host.Outcome State Fault Refusal :=
  .next (s.showStatus p received)

/-- RESPONSE_DELIVERED (R165). -/
def execResponseDelivered (p : PortId) (received : List Byte) (s : State) : Host.Outcome State Fault Refusal :=
  .next (s.deliverResponse p received)

/-- TRANSACTION_END (R166 to R168). -/
def execTransactionEnd (p : PortId) (received : List Byte) (s : State) : Host.Outcome State Fault Refusal :=
  .next (s.endTransaction p received)

/-- SESSION_EXPIRY (R135, R138, R139). -/
def execSessionExpiry (p : PortId) (s : State) : Host.Outcome State Fault Refusal := .next (s.takeExpiry p)

/-- AXIS_LEVEL_CHANGE (R71, R72). -/
def execAxisLevelChange (n : AxisId) (input : AxisInput) (s : State) : Host.Outcome State Fault Refusal :=
  .next ((s.showAxis n input).reachLog input.log)

/-- TRIG_LEVEL_CHANGE (R45). -/
def execTrigLevelChange (l : LineId) (raw : Level) (channels : ChannelOrder) (s : State) : Host.Outcome State Fault Refusal :=
  .next ((s.showTrigLine l raw channels.events).reachLog channels.log)

/-- BURST_STEP (R54). -/
def execBurstStep (step : BurstInput) (s : State) : Host.Outcome State Fault Refusal :=
  .next ((s.takeBurstStep step.channel).reachLog step.log)

/-- GATE_PULSE_END (R108). -/
def execGatePulseEnd (g : GateId) (s : State) : Host.Outcome State Fault Refusal := .next (s.takeGatePulseEnd g)

/-- MARK_PULSE_END (R126). -/
def execMarkPulseEnd (s : State) : Host.Outcome State Fault Refusal := .next s.takeMarkPulseEnd

/-- RECOGNISED_EDGE (R123, R124). -/
def execRecognisedEdge (events : List ChannelId) (log : LogOrder) (s : State) : Host.Outcome State Fault Refusal :=
  .next ((s.takeRecognisedEdge events).reachLog log)

/-- RECOGNIZER_REARM (R123). -/
def execRecognizerRearm (s : State) : Host.Outcome State Fault Refusal := .next s.takeRearm

/-- MARK_LINE_CHANGE (R122). -/
def execMarkLineChange (outside : Level) (s : State) : Host.Outcome State Fault Refusal := .next (s.showMarkLine outside)

/-- TICK_COUNT_ADVANCE (R116): what this tick still holds is taken, then the next tick begins. -/
def execTickCountAdvance (s : State) : Host.Outcome State Fault Refusal := .next s.finishTick.beginTick

end Sys2Proof.Machine
end

