-- ==== Sys2Proof/Machine/Dispatch.lean ====
section
/-! DEFINITION. The meaning of every command: one arm per row of spec/opcode_table.json. -/

namespace Sys2Proof.Machine

def exec (i : Instr) (s : State) : Host.Outcome State Fault Refusal :=
  match i with
  | .pinReset => Sys2Proof.Machine.execPinReset s
  | .portUnblock p => Sys2Proof.Machine.execPortUnblock p s
  | .transactionBegin p => Sys2Proof.Machine.execTransactionBegin p s
  | .statusByteShifted p received => Sys2Proof.Machine.execStatusByteShifted p received s
  | .responseDelivered p received => Sys2Proof.Machine.execResponseDelivered p received s
  | .transactionEnd p received => Sys2Proof.Machine.execTransactionEnd p received s
  | .unknownCommand p code tag payload => Sys2Proof.Machine.execUnknownCommand p code tag payload s
  | .openSession p tag payload => Sys2Proof.Machine.execOpenSession p tag payload s
  | .closeSession p tag payload => Sys2Proof.Machine.execCloseSession p tag payload s
  | .ping p tag payload => Sys2Proof.Machine.execPing p tag payload s
  | .deviceInfo p tag payload => Sys2Proof.Machine.execDeviceInfo p tag payload s
  | .deviceReset p tag payload => Sys2Proof.Machine.execDeviceReset p tag payload s
  | .claim p tag payload => Sys2Proof.Machine.execClaim p tag payload s
  | .release p tag payload => Sys2Proof.Machine.execRelease p tag payload s
  | .whoOwns p tag payload => Sys2Proof.Machine.execWhoOwns p tag payload s
  | .sessionExpiry p => Sys2Proof.Machine.execSessionExpiry p s
  | .axisSetup p tag payload => Sys2Proof.Machine.execAxisSetup p tag payload s
  | .axisSpan p tag payload => Sys2Proof.Machine.execAxisSpan p tag payload s
  | .axisPreset p tag payload => Sys2Proof.Machine.execAxisPreset p tag payload s
  | .axisClearFault p tag payload => Sys2Proof.Machine.execAxisClearFault p tag payload s
  | .axisRead p tag payload => Sys2Proof.Machine.execAxisRead p tag payload s
  | .snap p tag payload => Sys2Proof.Machine.execSnap p tag payload s
  | .axisLevelChange n input => Sys2Proof.Machine.execAxisLevelChange n input s
  | .gatePulseEnd g => Sys2Proof.Machine.execGatePulseEnd g s
  | .cmpSetup p tag payload => Sys2Proof.Machine.execCmpSetup p tag payload s
  | .cmpEnable p tag payload => Sys2Proof.Machine.execCmpEnable p tag payload s
  | .cmpDisable p tag payload => Sys2Proof.Machine.execCmpDisable p tag payload s
  | .cmpStatus p tag payload => Sys2Proof.Machine.execCmpStatus p tag payload s
  | .gateSetup p tag payload => Sys2Proof.Machine.execGateSetup p tag payload s
  | .gateSet p tag payload => Sys2Proof.Machine.execGateSet p tag payload s
  | .gateStatus p tag payload => Sys2Proof.Machine.execGateStatus p tag payload s
  | .trigLevelChange l raw channels => Sys2Proof.Machine.execTrigLevelChange l raw channels s
  | .burstStep step => Sys2Proof.Machine.execBurstStep step s
  | .trigSetup p tag payload => Sys2Proof.Machine.execTrigSetup p tag payload s
  | .trigLineFilter p tag payload => Sys2Proof.Machine.execTrigLineFilter p tag payload s
  | .trigArm p tag payload => Sys2Proof.Machine.execTrigArm p tag payload s
  | .trigDisarm p tag payload => Sys2Proof.Machine.execTrigDisarm p tag payload s
  | .trigFire p tag payload => Sys2Proof.Machine.execTrigFire p tag payload s
  | .trigStatus p tag payload => Sys2Proof.Machine.execTrigStatus p tag payload s
  | .logSubscribe p tag payload => Sys2Proof.Machine.execLogSubscribe p tag payload s
  | .logUnsubscribe p tag payload => Sys2Proof.Machine.execLogUnsubscribe p tag payload s
  | .logFetch p tag payload => Sys2Proof.Machine.execLogFetch p tag payload s
  | .logRelease p tag payload => Sys2Proof.Machine.execLogRelease p tag payload s
  | .logStatus p tag payload => Sys2Proof.Machine.execLogStatus p tag payload s
  | .timeRead p tag payload => Sys2Proof.Machine.execTimeRead p tag payload s
  | .alignArm p tag payload => Sys2Proof.Machine.execAlignArm p tag payload s
  | .alignCancel p tag payload => Sys2Proof.Machine.execAlignCancel p tag payload s
  | .markSetup p tag payload => Sys2Proof.Machine.execMarkSetup p tag payload s
  | .markPulse p tag payload => Sys2Proof.Machine.execMarkPulse p tag payload s
  | .markPulseEnd => Sys2Proof.Machine.execMarkPulseEnd s
  | .recognisedEdge events log => Sys2Proof.Machine.execRecognisedEdge events log s
  | .recognizerRearm => Sys2Proof.Machine.execRecognizerRearm s
  | .eventMask p tag payload => Sys2Proof.Machine.execEventMask p tag payload s
  | .eventRead p tag payload => Sys2Proof.Machine.execEventRead p tag payload s
  | .eventAck p tag payload => Sys2Proof.Machine.execEventAck p tag payload s
  | .tickCountAdvance => Sys2Proof.Machine.execTickCountAdvance s
  | .markLineChange outside => Sys2Proof.Machine.execMarkLineChange outside s

end Sys2Proof.Machine
end

