-- ==== Sys2Proof/Safety.lean ====
section
/-! DEFINITION. What holds of the part between any two commands: the invariants the spec states about each kind of state, in the
terms the statements use. -/

namespace Sys2Proof.Machine

/-! ### Capture log and readers -/

/-- Records numbered one after the other from `seq` (R5, R7). -/
def consecutive : Seq → List Record → Prop
  | _, [] => True
  | seq, r :: rest => r.seq = seq ∧ consecutive (seq + 1) rest

/-- The window: at most 256 records, numbered from the tail to head - 1 without gaps (R5). -/
def CaptureLog.ok (l : CaptureLog) : Prop :=
  l.records.length = l.held ∧ l.held ≤ Config.logCapacity ∧ consecutive l.tail l.records ∧ l.drops ≤ Config.counterLimit

/-- A reader: its cursor lies from tail to head (R26), its fields are in range (R25), a KEEP reader has lost nothing (R33), and the
level flag stands as the level check leaves it (R31). -/
def Reader.ok (l : CaptureLog) (r : Reader) : Prop :=
  distance r.cursor l.tail ≤ l.held ∧ 1 ≤ r.watermark ∧ r.watermark ≤ Config.logCapacity ∧ r.lost ≤ Config.counterLimit ∧
    (r.mode = .keep → r.lost = 0) ∧ (r.level = true ↔ r.watermark ≤ l.unread r)

/-- Every reader is as R25, R26, R31 and R33 state. -/
def State.readersOk (s : State) : Prop := ∀ p r, s.reader p = some r → r.ok s.log

/-! ### Trigger channels -/

/-- The ranges of a channel's configuration (R43, R47). -/
def ChannelConfig.ok (c : ChannelId) (k : ChannelConfig) : Prop :=
  1 ≤ k.burstCount ∧ k.burstCount ≤ 127 ∧ 1 ≤ k.interval ∧ k.interval ≤ 65535 ∧ inSet k.prereqs c = false

/-- A channel's run state (R43, R49, R54): outstanding prerequisites exactly in WAITING and among the configured ones, burst
progress exactly in BURSTING and in range, counters in range. -/
def Channel.ok (c : ChannelId) (x : Channel) : Prop :=
  x.config.ok c ∧ (x.outstanding ≠ 0 ↔ x.state = .waiting) ∧ x.outstanding &&& ~~~x.config.prereqs = 0 ∧
    (x.state = .bursting →
      1 ≤ x.remaining ∧ x.remaining ≤ 126 ∧ x.nextIndex + x.remaining = x.config.burstCount ∧ 1 ≤ x.countdown ∧
        x.countdown ≤ x.config.interval) ∧
    (x.state ≠ .bursting → x.remaining = 0 ∧ x.nextIndex = 0 ∧ x.countdown = 0 ∧ x.stepDue = false) ∧
    x.ignored ≤ Config.counterLimit ∧ x.dropped ≤ Config.counterLimit

/-- Every channel is as R43, R49 and R54 state. -/
def State.channelsOk (s : State) : Prop := ∀ c, (s.channel c).ok c

/-! ### Axes -/

/-- An axis: its count within its mode's range, its cause exactly in FAULTED, OFF exactly in mode OFF, an overranged axis linear
and at a limit (R70, R76, R77). -/
def Axis.ok (x : Axis) : Prop :=
  x.inRange x.count = true ∧ x.span ≠ 1 ∧ x.span ≤ Config.maxSpan ∧ x.filter ≤ 15 ∧ x.sampleFilter ≤ 15 ∧ x.phaseErrors ≤ Config.countLimit ∧
    (x.cause ≠ .none ↔ x.state = .faulted) ∧ (x.mode = .off ↔ x.state = .off) ∧
    (x.cause = .overrange → x.span = 0 ∧ (x.count = Config.linearMax ∨ x.count = Config.linearMin))

/-- Every axis is as R70, R76 and R77 state. -/
def State.axesOk (s : State) : Prop := ∀ n, (s.axis n).ok

/-! ### Compare entries and gates -/

/-- An entry: met false in DISABLED, met equal to its condition on its axis's count in ENABLED (R92), counts in range, bound b
0 where it is not used (R93). -/
def Entry.ok (s : State) (x : Entry) : Prop :=
  (x.enabled = false → x.met = false) ∧ (x.enabled = true → x.met = x.condition (s.axis x.axis).count) ∧
    x.hits ≤ Config.countLimit ∧ x.suppressed ≤ Config.countLimit ∧ (x.kind.usesB = false → x.b = 0)

/-- Every entry is as R92 and R93 state. -/
def State.entriesOk (s : State) : Prop := ∀ e, (s.entry e).ok s

/-- A gate: its output as its mode gives it, pulse remaining 0 outside PULSE and never above its width, widths in range (R106). -/
def Gate.ok (s : State) (x : Gate) : Prop :=
  x.output = s.gateLevel x ∧ (x.mode ≠ .pulse → x.remaining = 0) ∧ x.remaining ≤ x.width ∧ 1 ≤ x.width ∧ x.width ≤ 65535 ∧
    (x.endDue = true → x.remaining = 1)

/-- Every gate is as R106 states. -/
def State.gatesOk (s : State) : Prop := ∀ g, (s.gate g).ok s

/-! ### MARK unit and timebase -/

/-- The drive and the recognizer (R123, R126). -/
def MarkUnit.ok (m : MarkUnit) : Prop :=
  (m.drive = .idle → m.remaining = 0 ∧ m.endDue = false) ∧
    (m.drive = .driving → 1 ≤ m.remaining ∧ m.remaining ≤ Config.markPulseTicks) ∧
    (m.recognizer = .ready → m.lowRun ≤ 3) ∧ (m.recognizer = .held → m.highRun ≤ 3) ∧
    (m.sampled = .rearmed → m.recognizer = .ready ∧ m.lowRun = 0 ∧ m.drive = .idle)

/-- While the align state is IDLE the preload is 0 (R119, R120, R130, R131). -/
def Timebase.ok (t : Timebase) : Prop := t.align = .idle → t.preload = 0

/-! ### Sessions, claims and event records -/

/-- No two open sessions share a rank (R132). -/
def State.ranksDistinct (s : State) : Prop :=
  ∀ p q a b, s.session p = some a → s.session q = some b → a.rank = b.rank → p = q

/-- Every owner is an open session (R144). -/
def State.ownersOpen (s : State) : Prop := ∀ r p, s.owner r = some p → (s.session p).isSome = true

/-- The idle timer lies from 0 to the limit; with a limit of 0 it stays 0 (R132, R135). -/
def State.timersOk (s : State) : Prop := ∀ p ses, s.session p = some ses → ses.elapsed ≤ ses.limitTicks

/-- Counts of at most 255, and empty sets where the count is 0 (R151). -/
def EventRecords.ok (r : EventRecords) : Prop :=
  (∀ k, r.count k ≤ Config.countLimit) ∧ (r.trigFired.count = 0 → r.trigFired.members = 0) ∧
    (r.trigIgnored.count = 0 → r.trigIgnored.members = 0) ∧
    (r.burstEnd.count = 0 → r.burstEnd.complete = 0 ∧ r.burstEnd.cut = 0) ∧ (r.cmpHit.count = 0 → r.cmpHit.members = 0) ∧
    (r.axisFault.count = 0 → r.axisFault.members = 0) ∧ (r.claimLost.count = 0 → r.claimLost.members = 0)

/-- Every session's records are as R151 states. -/
def State.recordsOk (s : State) : Prop := ∀ p ses, s.session p = some ses → ses.records.ok

/-- What a park leaves stays so while a resource has no owner: a channel DISARMED (R68), an entry DISABLED (R113), a gate MANUAL
and INACTIVE (R114), MARK with no armed alignment (R130). -/
def State.unownedParked (s : State) : Prop :=
  (∀ c, s.owner (.channel c) = none → (s.channel c).state = .disarmed) ∧
    (∀ e, s.owner (.entry e) = none → (s.entry e).enabled = false) ∧
    (∀ g, s.owner (.gate g) = none → (s.gate g).mode = .manual ∧ (s.gate g).output = .inactive) ∧
    (s.owner .mark = none → s.time.align = .idle)

/-! ### Host ports -/

/-- A port: at most four outstanding (R162), and a chosen response is the one at the head of its queue (R163, R165, R170). -/
def Port.ok (q : Port) : Prop :=
  q.outstanding ≤ Config.maxOutstanding ∧
    (∀ t r, q.receive = .inTransaction t → t.chosen = some r → q.responses.head? = some r)

/-- Every port is as R162 states. -/
def State.portsOk (s : State) : Prop := ∀ p, (s.port p).ok

/-! ### The whole part -/

/-- Everything above. -/
structure State.Inv (s : State) : Prop where
  log : s.log.ok
  readers : s.readersOk
  channels : s.channelsOk
  axes : s.axesOk
  entries : s.entriesOk
  gates : s.gatesOk
  mark : s.mark.ok
  time : s.time.ok
  ranks : s.ranksDistinct
  owners : s.ownersOpen
  timers : s.timersOk
  records : s.recordsOk
  parked : s.unownedParked
  ports : s.portsOk

/-! ### What the statements speak of -/

/-- The request that a command takes: its port and its frame (R171, R179); none for the commands that take no request. -/
def requestOf : Instr → Option (PortId × Frame)
  | .pinReset => none
  | .portUnblock _ => none
  | .transactionBegin _ => none
  | .statusByteShifted _ _ => none
  | .responseDelivered _ _ => none
  | .transactionEnd _ _ => none
  | .unknownCommand p code tag payload => some (p, { command := code, tag := tag, payload := payload })
  | .openSession p tag payload => some (p, { command := codeOpen, tag := tag, payload := payload })
  | .closeSession p tag payload => some (p, { command := codeClose, tag := tag, payload := payload })
  | .ping p tag payload => some (p, { command := codePing, tag := tag, payload := payload })
  | .deviceInfo p tag payload => some (p, { command := codeDeviceInfo, tag := tag, payload := payload })
  | .deviceReset p tag payload => some (p, { command := codeDeviceReset, tag := tag, payload := payload })
  | .claim p tag payload => some (p, { command := codeClaim, tag := tag, payload := payload })
  | .release p tag payload => some (p, { command := codeRelease, tag := tag, payload := payload })
  | .whoOwns p tag payload => some (p, { command := codeWhoOwns, tag := tag, payload := payload })
  | .sessionExpiry _ => none
  | .axisSetup p tag payload => some (p, { command := codeAxisSetup, tag := tag, payload := payload })
  | .axisSpan p tag payload => some (p, { command := codeAxisSpan, tag := tag, payload := payload })
  | .axisPreset p tag payload => some (p, { command := codeAxisPreset, tag := tag, payload := payload })
  | .axisClearFault p tag payload => some (p, { command := codeAxisClearFault, tag := tag, payload := payload })
  | .axisRead p tag payload => some (p, { command := codeAxisRead, tag := tag, payload := payload })
  | .snap p tag payload => some (p, { command := codeSnap, tag := tag, payload := payload })
  | .axisLevelChange _ _ => none
  | .gatePulseEnd _ => none
  | .cmpSetup p tag payload => some (p, { command := codeCmpSetup, tag := tag, payload := payload })
  | .cmpEnable p tag payload => some (p, { command := codeCmpEnable, tag := tag, payload := payload })
  | .cmpDisable p tag payload => some (p, { command := codeCmpDisable, tag := tag, payload := payload })
  | .cmpStatus p tag payload => some (p, { command := codeCmpStatus, tag := tag, payload := payload })
  | .gateSetup p tag payload => some (p, { command := codeGateSetup, tag := tag, payload := payload })
  | .gateSet p tag payload => some (p, { command := codeGateSet, tag := tag, payload := payload })
  | .gateStatus p tag payload => some (p, { command := codeGateStatus, tag := tag, payload := payload })
  | .trigLevelChange _ _ _ => none
  | .burstStep _ => none
  | .trigSetup p tag payload => some (p, { command := codeTrigSetup, tag := tag, payload := payload })
  | .trigLineFilter p tag payload => some (p, { command := codeTrigLineFilter, tag := tag, payload := payload })
  | .trigArm p tag payload => some (p, { command := codeTrigArm, tag := tag, payload := payload })
  | .trigDisarm p tag payload => some (p, { command := codeTrigDisarm, tag := tag, payload := payload })
  | .trigFire p tag payload => some (p, { command := codeTrigFire, tag := tag, payload := payload })
  | .trigStatus p tag payload => some (p, { command := codeTrigStatus, tag := tag, payload := payload })
  | .logSubscribe p tag payload => some (p, { command := codeLogSubscribe, tag := tag, payload := payload })
  | .logUnsubscribe p tag payload => some (p, { command := codeLogUnsubscribe, tag := tag, payload := payload })
  | .logFetch p tag payload => some (p, { command := codeLogFetch, tag := tag, payload := payload })
  | .logRelease p tag payload => some (p, { command := codeLogRelease, tag := tag, payload := payload })
  | .logStatus p tag payload => some (p, { command := codeLogStatus, tag := tag, payload := payload })
  | .timeRead p tag payload => some (p, { command := codeTimeRead, tag := tag, payload := payload })
  | .alignArm p tag payload => some (p, { command := codeAlignArm, tag := tag, payload := payload })
  | .alignCancel p tag payload => some (p, { command := codeAlignCancel, tag := tag, payload := payload })
  | .markSetup p tag payload => some (p, { command := codeMarkSetup, tag := tag, payload := payload })
  | .markPulse p tag payload => some (p, { command := codeMarkPulse, tag := tag, payload := payload })
  | .markPulseEnd => none
  | .recognisedEdge _ _ => none
  | .recognizerRearm => none
  | .eventMask p tag payload => some (p, { command := codeEventMask, tag := tag, payload := payload })
  | .eventRead p tag payload => some (p, { command := codeEventRead, tag := tag, payload := payload })
  | .eventAck p tag payload => some (p, { command := codeEventAck, tag := tag, payload := payload })
  | .tickCountAdvance => none
  | .markLineChange _ => none

/-- From `s` to `t` the executor has taken the oldest request of port `p` and deposited the response `r` there; it has served `p`,
and no other port has changed (R171, R172). -/
def State.answered (s : State) (p : PortId) (r : Response) (t : State) : Prop :=
  t.port p =
      { s.port p with requests := (s.port p).requests.tail, responses := (s.port p).responses ++ [r] } ∧
    (∀ q, q ≠ p → t.port q = s.port q) ∧ t.executor = { last := p, took := true }

/-- A request answered, with nothing else changed. -/
def State.onlyAnswered (s : State) (p : PortId) (r : Response) (t : State) : Prop :=
  s.answered p r t ∧ t = { s with ports := t.ports, executor := t.executor }

/-- A request refused: the result code with an empty payload, and nothing else changed (R172). -/
def State.refused (s : State) (p : PortId) (code tag : Byte) (result : ResultCode) (t : State) : Prop :=
  s.onlyAnswered p { command := code, tag := tag, result := result, payload := [] } t

/-- A 40-bit signed value as five payload bytes spell it (R177). -/
def countOfBytes (bytes : List Byte) : Int := (BitVec.ofNat 40 (natOfBytes bytes)).toInt

/-- A session once the log has written a record, at a log whose tail and head were `tail` and `head` before; `evicted` says
whether the record at the tail went first (R11, R12, R30 to R33). -/
def Session.afterWrite (evicted : Bool) (tail head : Seq) (ses : Session) : Session :=
  match ses.reader with
  | none => ses
  | some r =>
    let lapped := evicted && decide (r.mode = .lossy ∧ r.cursor = tail)
    let cursor := if lapped then r.cursor + 1 else r.cursor
    let level := decide (r.watermark ≤ distance (head + 1) cursor)
    let lapRecords := if lapped then ses.records.file .logLapped else ses.records
    { ses with
      reader := some { r with cursor := cursor, level := level,
                              lost := if lapped then saturate Config.counterLimit r.lost else r.lost }
      records := if level && !r.level then lapRecords.file .logLevel else lapRecords }

/-- A session once the log has dropped a capture: LOG_DROP is filed where there is a reader (R16). -/
def Session.afterDrop (ses : Session) : Session :=
  if ses.reader.isSome then { ses with records := ses.records.file .logDrop } else ses

/-- The request payload lengths of section 10.4 (R182 to R188); none for a code that names no request. -/
def payloadLength (code : Byte) : Option Nat :=
  ([(codeOpen, 3), (codeClose, 0), (codePing, 0), (codeDeviceInfo, 0), (codeDeviceReset, 0), (codeClaim, 3), (codeRelease, 2),
    (codeWhoOwns, 2), (codeAxisSetup, 4), (codeAxisSpan, 5), (codeAxisPreset, 6), (codeAxisClearFault, 6), (codeAxisRead, 2),
    (codeSnap, 3), (codeTimeRead, 0), (codeAlignArm, 8), (codeAlignCancel, 0), (codeMarkSetup, 2), (codeMarkPulse, 0),
    (codeTrigSetup, 11), (codeTrigLineFilter, 2), (codeTrigArm, 1), (codeTrigDisarm, 1), (codeTrigFire, 1),
    (codeTrigStatus, 1), (codeLogSubscribe, 4), (codeLogUnsubscribe, 0), (codeLogFetch, 2), (codeLogRelease, 4),
    (codeLogStatus, 0), (codeCmpSetup, 15), (codeCmpEnable, 1), (codeCmpDisable, 1), (codeCmpStatus, 1),
    (codeGateSetup, 9), (codeGateSet, 2), (codeGateStatus, 1), (codeEventMask, 2), (codeEventRead, 0),
    (codeEventAck, 2)] : List (Byte × Nat)).lookup code

/-- The source that the kind byte and the number byte of a TRIG_SETUP give, when both are in range (R178). -/
def sourceOfBytes (kind number : Byte) : Source :=
  if kind = 0 then .line (Fin.ofNat 8 number.toNat)
  else if kind = 1 then .index (Fin.ofNat 6 number.toNat)
  else if kind = 2 then .mark
  else if kind = 3 then .entry (Fin.ofNat 24 number.toNat)
  else .host

/-- The decode mode of a code 0 to 5 (R178). -/
def modeOfByte (code : Byte) : DecodeMode :=
  if code = 0 then .off else if code = 1 then .quad1 else if code = 2 then .quad2 else if code = 3 then .quad4
  else if code = 4 then .pulseDir else .upDown

/-- The compare kind of a code 0 to 4 (R178). -/
def kindOfByte (code : Byte) : CompareKind :=
  if code = 0 then .atPoint else if code = 1 then .above else if code = 2 then .below else if code = 3 then .inside
  else .outside

/-- The filtered levels of A and B as a place in the quadrature cycle 00, 10, 11, 01 (R73). -/
def quadraturePlace : Level → Level → BitVec 2
  | .low, .low => 0
  | .high, .low => 1
  | .high, .high => 2
  | .low, .high => 3

/-- A channel taken to DISARMED, its configuration and counters kept (R56, R68). -/
def Channel.toDisarmed (x : Channel) : Channel :=
  { x with state := .disarmed, outstanding := 0, remaining := 0, nextIndex := 0, countdown := 0, stepDue := false }

/-- From `s` to `t` exactly the resources of `lost` have lost their owner, and each of them is parked: an axis as it was (R90), a
channel DISARMED (R68), an entry DISABLED with met false (R113), a gate MANUAL and INACTIVE with its pulse cut (R114), MARK
with its alignment canceled (R130). A gate that is not parked follows its sources, as its mode has it (R107). -/
def State.parkedFrom (s : State) (lost : Resource → Bool) (t : State) : Prop :=
  (∀ r, t.owner r = if lost r then none else s.owner r) ∧
    (∀ c, t.channel c = if lost (.channel c) then (s.channel c).toDisarmed else s.channel c) ∧
    (∀ e, t.entry e = if lost (.entry e) then { s.entry e with enabled := false, met := false } else s.entry e) ∧
    (∀ g, t.gate g =
      if lost (.gate g) then
        { s.gate g with mode := .manual, manual := .inactive, remaining := 0, output := .inactive, endDue := false }
      else { s.gate g with output := t.gateLevel (s.gate g) }) ∧
    t.time = if lost .mark then { s.time with align := .idle, preload := 0 } else s.time

/-- From `s` to `t` the count `v` of axis `n` has been offered quietly (R83, R99): every ENABLED entry of the axis has taken met
from its condition, without a hit, and the FOLLOW gates follow. -/
def State.offeredQuietly (s : State) (n : AxisId) (v : Int) (t : State) : Prop :=
  (∀ e, t.entry e =
      if (s.entry e).axis = n ∧ (s.entry e).enabled = true then { s.entry e with met := (s.entry e).condition v }
      else s.entry e) ∧
    ∀ g, t.gate g = { s.gate g with output := t.gateLevel (s.gate g) }

/-- The capture request of channel `c` for a burst index, stamped and sampled now (R52, R54, R57). -/
def State.channelRequest (s : State) (c : ChannelId) (burstIndex : Nat) : Capture :=
  { stamp := s.stamp, cause := .trigger c burstIndex, values := s.sampleAxes (s.channel c).config.axes }

/-- From `s` to `t` channel `c` has fired (R52), but for its capture, which is taken at the log on its own (R9, R10): it has
counted the firing, it stands in the state its burst count and mode choose, every other channel has taken the fired notice
(R49), TRIG_FIRED is filed to the owner when the notify flag is set, and nothing else has changed. -/
def State.fired (s : State) (c : ChannelId) (t : State) : Prop :=
  let x := s.channel c
  let counted := { x with fires := x.fires + 1 }
  t = { s with channels := t.channels, sessions := t.sessions } ∧
    t.channel c =
      (if 1 < x.config.burstCount then
        { counted with state := .bursting, remaining := x.config.burstCount - 1, nextIndex := 1,
                       countdown := x.config.interval, stepDue := false }
      else if x.config.mode = .once then { counted with state := .spent }
      else { counted with state := .armed }) ∧
    (∀ d, d ≠ c → t.channel d =
      let y := s.channel d
      if y.state = .waiting ∧ inSet y.outstanding c = true then
        { y with outstanding := withoutMember y.outstanding c
                 state := if withoutMember y.outstanding c = 0 then .armed else .waiting }
      else y) ∧
    ∀ q, t.session q =
      if x.config.notify = true ∧ s.owner (.channel c) = some q then
        (s.session q).map (fun ses => { ses with records := ses.records.file (.trigFired c) })
      else s.session q

/-- A capture request made: it is under way to the log (R8, R9). -/
def State.requested (s : State) (c : Capture) : State := { s with underway := s.underway ++ [c] }

/-- From `s` to `t` the captures `now` of those under way have reached the log, one after the other, and `rest` are still under way
(R9, R10). -/
def State.arrived (s : State) (now rest : List Capture) (t : State) : Prop :=
  (now ++ rest).Perm s.underway ∧ t = now.foldl (fun v c => (v.handOver c).1) { s with underway := rest }

/-- The order by which a command brings `now` to the log and leaves `rest` under way. -/
def logOrderOf (now rest : List Capture) : LogOrder := { first := (now ++ rest).map Capture.cause, later := rest.length }

/-- Every order is open to the command `c`, which `log` completes, in state `s`: when its own happening leaves `u`, it can bring any
of the captures under way in `u` to the log, in any order (R9). -/
def State.everyOrder (s u : State) (c : LogOrder → Instr) : Prop :=
  ∀ now rest t, ((now ++ rest).map Capture.cause).Nodup → u.arrived now rest t → exec (c (logOrderOf now rest)) s = .next t

/-- The order `log` brings the captures under way in `u` to the log but for the last `later`, and leaves `t`. -/
def State.reached (u : State) (log : LogOrder) (t : State) : Prop :=
  ∃ now rest, u.arrived now rest t ∧ rest.length = min log.later u.underway.length

/-- A status byte on the wire: the bits of R180. -/
def statusNumber (b : StatusByte) : Nat :=
  128 * b.session.toNat + 64 * b.expired.toNat + 32 * b.frameErr.toNat + 16 * b.refused.toNat + 8 * b.attn.toNat + b.pending

/-- The bytes of the records of the named kinds, in the order of R151 and the layout of R188. -/
def recordBytes (r : EventRecords) (named : KindSet) : List Byte :=
  (if named.getLsbD 0 then [byteOfNat r.logLevel] else []) ++ (if named.getLsbD 1 then [byteOfNat r.logDrop] else []) ++
    (if named.getLsbD 2 then [byteOfNat r.logLapped] else []) ++
    (if named.getLsbD 3 then [byteOfNat r.trigFired.count, r.trigFired.members] else []) ++
    (if named.getLsbD 4 then [byteOfNat r.trigIgnored.count, r.trigIgnored.members] else []) ++
    (if named.getLsbD 5 then [byteOfNat r.burstEnd.count, r.burstEnd.complete, r.burstEnd.cut] else []) ++
    (if named.getLsbD 6 then byteOfNat r.cmpHit.count :: bytesOfNat 4 r.cmpHit.members.toNat else []) ++
    (if named.getLsbD 7 then [byteOfNat r.axisFault.count, byteOfNat r.axisFault.members.toNat] else []) ++
    (if named.getLsbD 8 then byteOfNat r.claimLost.count :: bytesOfNat 6 r.claimLost.members.toNat else []) ++
    (if named.getLsbD 9 then [byteOfNat r.markSeen] else []) ++ (if named.getLsbD 10 then [byteOfNat r.aligned] else [])

/-- The records once those of the named kinds are acknowledged: count 0 and empty sets (R156). -/
def acknowledged (r : EventRecords) (named : KindSet) : EventRecords :=
  { logLevel := if named.getLsbD 0 then 0 else r.logLevel
    logDrop := if named.getLsbD 1 then 0 else r.logDrop
    logLapped := if named.getLsbD 2 then 0 else r.logLapped
    trigFired := if named.getLsbD 3 then { count := 0, members := 0 } else r.trigFired
    trigIgnored := if named.getLsbD 4 then { count := 0, members := 0 } else r.trigIgnored
    burstEnd := if named.getLsbD 5 then { count := 0, complete := 0, cut := 0 } else r.burstEnd
    cmpHit := if named.getLsbD 6 then { count := 0, members := 0 } else r.cmpHit
    axisFault := if named.getLsbD 7 then { count := 0, members := 0 } else r.axisFault
    claimLost := if named.getLsbD 8 then { count := 0, members := 0 } else r.claimLost
    markSeen := if named.getLsbD 9 then 0 else r.markSeen
    aligned := if named.getLsbD 10 then 0 else r.aligned }

/-- Nothing that a tick holds is left to be taken: every line is sampled, no pulse end, burst step, expiry or request is due, and no
capture is under way. -/
def State.nothingLeft (s : State) : Prop :=
  (∀ n, (s.axis n).sampledAB = true ∧ (s.axis n).sampledZ = true) ∧ (∀ l, (s.trigLine l).sampled = true) ∧
    s.mark.sampled ≠ .notYet ∧ s.mark.endDue = false ∧ (∀ g, (s.gate g).endDue = false) ∧
    (∀ c, (s.channel c).state = .bursting → (s.channel c).stepDue = false) ∧
    (∀ p ses, s.session p = some ses → ses.idleLimit = 0 ∨ ses.elapsed < ses.idleLimit.toNat * 10000) ∧
    s.nextRequest = none ∧ s.underway = []

end Sys2Proof.Machine
end

