-- ==== Sys2Proof/Certificates/Slice0/Obligations.lean ====
section
/-! DEFINITION. The statements for the provers, in the words of Safety.lean and of the named operations. -/

open Sys2Proof Sys2Proof.Machine

/-- A step carries out the command at the front of the queue, on the state with the rest of the queue (00_scope 1.5).
Rests in part on the choices of the model in log entry 4. -/
def Obligations.StepTakesFrontCommand : Prop :=
  ∀ s : State,
    (∀ c rest, s.pending = c :: rest → step s = exec c { s with pending := rest }) ∧ (s.pending = [] → step s = .next s)

/-- Every command, in every state, answers a next state, and the commands that wait are left as they are (R174, 00_scope
1.5). Rests in part on the choices of the model in log entries 1, 5, 8. -/
def Obligations.EveryCommandCompletesAndKeepsTheQueue : Prop :=
  ∀ (c : Instr) (s : State), ∃ t, exec c s = .next t ∧ t.pending = s.pending

/-- PIN_RESET leaves every block at the values the reset rules state (R22, R69, R91, R115, R131, R144, R162, R171, 01
section 1.7, 00_scope 1.6). Rests in part on the choices of the model in log entries 6, 7, 8, 26. -/
def Obligations.PinResetLeavesInitialValues : Prop :=
  ∀ s : State, ∃ t, exec .pinReset s = .next t ∧
    t.log = { records := [], head := 0, tail := 0, drops := 0 } ∧
    (∀ p, t.session p = none) ∧ (∀ r, t.owner r = none) ∧
    t.time = { tick := 0, epoch := 0, align := .idle, preload := 0 } ∧
    (t.mark.captureSet = 0 ∧ t.mark.notify = false ∧ t.mark.drive = .idle ∧ t.mark.remaining = 0 ∧
      t.mark.recognizer = .held ∧ t.mark.highRun = 0 ∧ t.mark.outside = s.mark.outside) ∧
    (∀ n, let x := t.axis n
      (x.mode = .off ∧ x.invert = false ∧ x.filter = 0 ∧ x.sampleFilter = 0 ∧ x.span = 0 ∧ x.state = .off ∧ x.cause = .none ∧ x.count = 0 ∧
        x.turns = 0 ∧ x.phaseErrors = 0) ∧
      (x.a.primed = false ∧ x.b.primed = false ∧ x.z.primed = false) ∧
      (x.a.raw = (s.axis n).a.raw ∧ x.b.raw = (s.axis n).b.raw ∧ x.z.raw = (s.axis n).z.raw)) ∧
    (∀ l, (t.trigLine l).filter = 0 ∧ (t.trigLine l).sampleFilter = 0 ∧ (t.trigLine l).line.primed = false ∧
      (t.trigLine l).line.raw = (s.trigLine l).line.raw) ∧
    (∀ c, t.channel c =
      { config := { source := .host, edge := .rising, axes := 0, mode := .once, burstCount := 1, interval := 1, prereqs := 0,
                    notify := false }
        state := .disarmed, outstanding := 0, remaining := 0, nextIndex := 0, countdown := 0, stepDue := false, fires := 0
        ignored := 0, dropped := 0 }) ∧
    (∀ e, t.entry e =
      { axis := 0, kind := .atPoint, a := 0, b := 0, event := false, markFlag := false, enabled := false, met := false
        hits := 0, lastHit := none, suppressed := 0 }) ∧
    (∀ g, t.gate g =
      { mode := .manual, polarity := .normal, sources := 0, width := 1, manual := .inactive, remaining := 0
        output := .inactive, endDue := false }) ∧
    (∀ p, t.port p =
      { receive := .blocked, requests := [], responses := [], expired := false, frameErr := false, refused := false }) ∧
    t.executor = { last := 3, took := false } ∧ t.underway = [] ∧ t.discards = s.discards ∧ t.pending = s.pending

/-- The state after reset meets every invariant of Safety.lean (R5, R26, R49, R70, R92, R106, R123, R132, R144, R151,
R162). Rests in part on the choices of the model in log entries 6, 7. -/
def Obligations.ResetMeetsEveryInvariant : Prop :=
  State.reset.Inv

/-- Every step keeps the window: at most 256 records, numbered from tail to head - 1 without gaps (R5, R7, R15). -/
def Obligations.StepKeepsTheLogWindow : Prop :=
  ∀ s t : State, s.log.ok → step s = .next t → t.log.ok

/-- Every step keeps every reader inside the window, its level flag right, and a KEEP reader without loss (R25, R26,
R31, R33). -/
def Obligations.StepKeepsReadersInTheWindow : Prop :=
  ∀ s t : State, s.log.ok → s.readersOk → step s = .next t → t.readersOk

/-- Every step keeps every channel consistent: outstanding exactly in WAITING, burst progress exactly in BURSTING (R43,
R47, R48, R49, R54). -/
def Obligations.StepKeepsChannelsInTheirStates : Prop :=
  ∀ s t : State, s.channelsOk → step s = .next t → t.channelsOk

/-- Every step keeps every count inside its range, the cause exactly in FAULTED, and an overranged axis at a limit (R70,
R76, R77, R78). -/
def Obligations.StepKeepsAxesInRange : Prop :=
  ∀ s t : State, s.axesOk → step s = .next t → t.axesOk

/-- Every step keeps met false in DISABLED and equal to the condition on the axis count in ENABLED (R92, R93). -/
def Obligations.StepKeepsMetEqualToTheCondition : Prop :=
  ∀ s t : State, s.entriesOk → step s = .next t → t.entriesOk

/-- Every step keeps every gate output what its mode makes it (R106, R107, R108). -/
def Obligations.StepKeepsGateOutputsRight : Prop :=
  ∀ s t : State, s.gatesOk → step s = .next t → t.gatesOk

/-- Every step keeps drive remaining 1 to 8 exactly while DRIVING, the runs below 4, and the preload 0 in IDLE (R123,
R126, R119, R120). -/
def Obligations.StepKeepsMarkUnitAndPreload : Prop :=
  ∀ s t : State, s.mark.ok ∧ s.time.ok → step s = .next t → t.mark.ok ∧ t.time.ok

/-- Every step keeps ranks distinct and every owner an open session (R132, R144). -/
def Obligations.StepKeepsRanksAndOwners : Prop :=
  ∀ s t : State, s.ranksDistinct ∧ s.ownersOpen → step s = .next t → t.ranksDistinct ∧ t.ownersOpen

/-- Every step keeps every idle timer from 0 to its limit (R132, R135). -/
def Obligations.StepKeepsIdleTimersBelowTheLimit : Prop :=
  ∀ s t : State, s.timersOk → step s = .next t → t.timersOk

/-- Every step keeps every event count at most 255 and the sets empty where the count is 0 (R151, R153). -/
def Obligations.StepKeepsEventRecordsExact : Prop :=
  ∀ s t : State, s.recordsOk → step s = .next t → t.recordsOk

/-- Every step keeps an unowned channel DISARMED, an unowned entry DISABLED, an unowned gate MANUAL and INACTIVE (R68,
R113, R114, R130, R138, R147). -/
def Obligations.StepKeepsUnownedResourcesParked : Prop :=
  ∀ s t : State, s.unownedParked → step s = .next t → t.unownedParked

/-- Every step keeps waiting requests plus undelivered responses at most 4, and a chosen response at the head of its
queue (R162, R163, R165, R170). -/
def Obligations.StepKeepsPortsWithinFour : Prop :=
  ∀ s t : State, s.portsOk → step s = .next t → t.portsOk

/-- Only resets, CLOSE, CLAIM, RELEASE, expiries, a frame that an expiry precedes, and the tick can change an owner
(R144, R138, R145, R147). Rests in part on the choices of the model in log entries 1, 2, 10. -/
def Obligations.OwnersChangeOnlyByTheseCommands : Prop :=
  ∀ (c : Instr) (s t : State) (r : Resource), exec c s = .next t → t.owner r ≠ s.owner r →
    c = .pinReset ∨ c = .tickCountAdvance ∨ (∃ p, c = .sessionExpiry p) ∨ (∃ p tag l, c = .closeSession p tag l) ∨
      (∃ p l, c = .transactionEnd p l ∧ s.reloadBarred p = true) ∨ (∃ p tag l, c = .deviceReset p tag l) ∨ (∃ p tag l, c = .claim p tag l) ∨ (∃ p tag l, c = .release p tag l)

/-- A capture request is written, written after an eviction, or dropped, by the held count and the KEEP cursors (R10,
R11, R12, R13, R15, R16, R30, R31). -/
def Obligations.CaptureIsWrittenEvictedOrDropped : Prop :=
  ∀ (s : State) (c : Capture),
    let out := s.capture c
    let t := out.1
    let record : Record := { seq := s.log.head, stamp := c.stamp, cause := c.cause, values := c.values }
    let pinned := ∃ p r, s.reader p = some r ∧ r.mode = .keep ∧ r.cursor = s.log.tail
    t = { s with log := t.log, sessions := t.sessions } ∧
    (s.log.held < 256 →
      out.2 = some s.log.head ∧
        t.log = { s.log with records := s.log.records ++ [record], head := s.log.head + 1 } ∧
        ∀ p, t.session p = (s.session p).map (Session.afterWrite false s.log.tail s.log.head)) ∧
    (256 ≤ s.log.held → pinned →
      out.2 = none ∧ t.log = { s.log with drops := saturate 65535 s.log.drops } ∧
        ∀ p, t.session p = (s.session p).map Session.afterDrop) ∧
    (256 ≤ s.log.held → ¬pinned →
      out.2 = some s.log.head ∧
        t.log = { records := s.log.records.tail ++ [record], head := s.log.head + 1, tail := s.log.tail + 1
                  drops := s.log.drops } ∧
        ∀ p, t.session p = (s.session p).map (Session.afterWrite true s.log.tail s.log.head))

/-- A request is taken only in its turn: one a tick, from the first port after the last one served, oldest first (R171,
R172). Rests in part on the choices of the model in log entries 1, 10. -/
def Obligations.ExecutorTakesInRotation : Prop :=
  (∀ (s : State) (p : PortId) (f : Frame),
      s.nextRequest = some (p, f) ↔
        s.executor.took = false ∧
          ∃ k : Fin 4, p = s.executor.last + 1 + k ∧
            (∃ rest, (s.port p).requests = { frame := f, joinedNow := false } :: rest) ∧
            (∀ j : Fin 4, j < k → ∀ w rest, (s.port (s.executor.last + 1 + j)).requests = w :: rest → w.joinedNow = true) ∧
            ¬(s.mark.sampled = .pulseEdge ∧ f.command = codeDeviceReset ∧ f.payload = [] ∧
              ∃ ses, s.session p = some ses ∧ ses.rank = 3)) ∧
    ∀ (c : Instr) (s : State) (p : PortId) (f : Frame), requestOf c = some (p, f) →
      (s.nextRequest ≠ some (p, f) → exec c s = .next s) ∧
        (s.nextRequest = some (p, f) → c.wellFormed = true →
          ∃ t, exec c s = .next t ∧ t.executor = { last := p, took := true } ∧ t.nextRequest = none)

/-- NO_SESSION, UNKNOWN and BAD_LENGTH: the first three checks of every request, which change nothing (R172, R173,
R179). Rests in part on the choices of the model in log entry 21. -/
def Obligations.RequestsAreValidatedStepsOneToThree : Prop :=
  ∀ (c : Instr) (s : State) (p : PortId) (f : Frame), c.wellFormed = true → requestOf c = some (p, f) →
    s.nextRequest = some (p, f) →
    ∃ t, exec c s = .next t ∧
      (f.command ≠ codeOpen → s.session p = none → s.refused p f.command f.tag .noSession t) ∧
      (s.session p ≠ none → payloadLength f.command = none → s.refused p f.command f.tag .unknown t) ∧
      (f.command = codeOpen ∨ s.session p ≠ none →
        ∀ n, payloadLength f.command = some n → f.payload.length ≠ n → s.refused p f.command f.tag .badLength t)

/-- The port reads from the incoming bytes exactly the frame they encode (R166, R167, R179). -/
def Obligations.FramesAreJudgedByLayoutAndCrc : Prop :=
  (∀ (bytes : List Byte) (f : Frame),
      judge bytes = .valid f ↔ f.command ≠ 0 ∧ f.payload.length ≤ 48 ∧ ∃ rest, bytes = f.bytes ++ rest) ∧
    (∀ bytes : List Byte, judge bytes = .noRequest ↔ bytes = [] ∨ bytes.head? = some 0) ∧
    (∀ f : Frame, ∃ check, f.bytes = [f.command, f.tag, byteOfNat f.payload.length] ++ f.payload ++ [check] ∧
      crc8 f.bytes = 0) ∧
    (∀ bytes : List Byte, crc8 (bytes ++ [crc8 bytes]) = 0) ∧
    crc8 [] = 0 ∧
    (∀ (bytes : List Byte) (b : Byte),
      crc8 (bytes ++ [b]) =
        Nat.iterate (fun c : Byte => if c.getLsbD 7 then (c <<< 1) ^^^ 7#8 else c <<< 1) 8 (crc8 bytes ^^^ b)) ∧
    crc8 [0x31, 0x32, 0x33, 0x34, 0x35, 0x36, 0x37, 0x38, 0x39] = 0xF4

/-- A blocked port becomes IDLE; a transaction forms its status byte and chooses the head response (R162, R163, R164,
R179, R180). Rests in part on the choices of the model in log entry 1. -/
def Obligations.PortUnblockAndTransactionBegin : Prop :=
  let frame := fun r : Response =>
    let body := [r.command, r.tag, r.result.code, byteOfNat r.payload.length] ++ r.payload
    body ++ [crc8 body]
  (∀ (s : State) (p : PortId), ∃ t, exec (.portUnblock p) s = .next t ∧
      t = (if (s.port p).receive = .blocked then s.setPort p { s.port p with receive := .idle } else s)) ∧
    (∀ (s : State) (p : PortId), ∃ t, exec (.transactionBegin p) s = .next t ∧
      ((s.port p).receive ≠ .idle → t = s) ∧
      ((s.port p).receive = .idle →
        ∃ b : StatusByte,
          t = s.setPort p
            { s.port p with receive := .inTransaction { status := b, chosen := (s.port p).responses.head?, shown := false
                                                        incoming := [], gone := none } } ∧
          (b.session = true ↔ ∃ ses, s.session p = some ses) ∧ b.expired = (s.port p).expired ∧
          b.frameErr = (s.port p).frameErr ∧ b.refused = (s.port p).refused ∧ b.pending = (s.port p).responses.length ∧
          (b.attn = true ↔
            ∃ ses k, s.session p = some ses ∧ inSet ses.mask k.index = true ∧ 0 < ses.records.count k) ∧
          (t.port p).outByte 0 = some (byteOfNat (statusNumber b)) ∧
          ∀ k, (t.port p).outByte (k + 1) =
            some (((s.port p).responses.head?.map (fun r => (frame r).getD k 0)).getD 0))) ∧
    (∀ r : Response, r.bytes = frame r) ∧
    [ResultCode.ok, .unknown, .badLength, .badValue, .outOfRange, .noSession, .haveSession, .rankInUse, .notPermitted,
      .notOwner, .held, .wrongState, .notSubscribed, .markBusy].map ResultCode.code =
        [0, 1, 2, 3, 4, 5, 6, 7, 8, 9, 10, 11, 12, 13]

/-- At its eighth bit the status byte clears exactly the flags it carried set (R164). Rests in part on the choices of
the model in log entries 1, 33. -/
def Obligations.StatusByteClearsTheFlagsItCarried : Prop :=
  ∀ (s : State) (p : PortId) (received : Byte), ∃ t, exec (.statusByteShifted p received) s = .next t ∧
    ((∀ tr, (s.port p).receive ≠ .inTransaction tr) → t = s) ∧
    ∀ tr, (s.port p).receive = .inTransaction tr →
      t = if tr.shown then s
        else s.setPort p
          { s.port p with
            receive := .inTransaction { tr with shown := true, incoming := tr.incoming ++ [received] }
            expired := if tr.status.expired then false else (s.port p).expired
            frameErr := if tr.status.frameErr then false else (s.port p).frameErr
            refused := if tr.status.refused then false else (s.port p).refused }

/-- A response leaves its queue when its last byte is out, and only then (R163, R165, R179). Rests in part on the
choices of the model in log entry 1. -/
def Obligations.DeliveryRemovesTheHeadResponse : Prop :=
  ∀ (s : State) (p : PortId) (received : List Byte), ∃ t, exec (.responseDelivered p received) s = .next t ∧
    ((∀ tr r, (s.port p).receive = .inTransaction tr → tr.chosen = some r →
        tr.shown = false ∨ (tr.incoming ++ received).length ≠ 6 + r.payload.length) → t = s) ∧
    ∀ tr r, (s.port p).receive = .inTransaction tr → tr.chosen = some r → tr.shown = true →
      (tr.incoming ++ received).length = 6 + r.payload.length →
      t = s.setPort p
        { s.port p with
          responses := (s.port p).responses.tail
          receive := .inTransaction { tr with chosen := none, incoming := tr.incoming ++ received, gone := some (r, r.bytes.length) } }

/-- At the end of a transaction a valid frame joins the queue and reloads the timer, or is refused when 4 are
outstanding (R163, R164, R165, R166, R167, R168, R134). Rests in part on the choices of the model in log entries 1, 2,
10, 33. -/
def Obligations.TransactionEndAcceptsOrDiscardsTheFrame : Prop :=
  ∀ (s : State) (p : PortId) (received : List Byte), ∃ t, exec (.transactionEnd p received) s = .next t ∧
    ((∀ tr, (s.port p).receive ≠ .inTransaction tr) → t = s) ∧
    ∀ tr, (s.port p).receive = .inTransaction tr →
      let bytes := tr.incoming ++ received
      let base :=
        match judge bytes with
        | .valid _ => if s.reloadBarred p = true then s.expire p else s
        | .noRequest => s
        | .malformed => s
      let q := base.port p
      let clears := tr.shown = false ∧ bytes ≠ []
      let left : Port :=
        { receive := .idle
          requests := q.requests
          responses := if ∃ r, tr.chosen = some r ∧ 6 + r.payload.length ≤ bytes.length then q.responses.tail
            else q.responses
          expired := if clears ∧ tr.status.expired = true then false else q.expired
          frameErr := if clears ∧ tr.status.frameErr = true then false else q.frameErr
          refused := if clears ∧ tr.status.refused = true then false else q.refused }
      (∀ k, k ≠ p → t.port k = base.port k ∧ t.session k = base.session k) ∧
      t = { base with ports := t.ports, sessions := t.sessions } ∧
      match judge bytes with
      | .noRequest => t.port p = left ∧ t.session p = s.session p
      | .malformed => t.port p = { left with frameErr := true } ∧ t.session p = s.session p
      | .valid f =>
        t.port p =
            (if left.requests.length + left.responses.length < 4 then
              { left with requests := left.requests ++ [{ frame := f, joinedNow := true }] }
            else { left with refused := true }) ∧
          t.session p = (base.session p).map (fun ses => { ses with elapsed := 0 })

/-- OPEN is checked in its order and creates a fresh session with its rank and idle limit (R133, R154, R173, R182). -/
def Obligations.OpenCreatesASession : Prop :=
  ∀ (s : State) (p : PortId) (tag rank l1 l0 : Byte),
    s.nextRequest = some (p, { command := codeOpen, tag := tag, payload := [rank, l1, l0] }) →
    ∃ t, exec (.openSession p tag [rank, l1, l0]) s = .next t ∧
      if 3 < rank.toNat then s.refused p codeOpen tag .outOfRange t
      else if s.session p ≠ none then s.refused p codeOpen tag .haveSession t
      else if ∃ q, (s.session q).map (fun ses => ses.rank.val) = some rank.toNat then s.refused p codeOpen tag .rankInUse t
      else
        (∃ ranks : Byte,
          (∀ k : Fin 4, ranks.getLsbD k.val = true ↔ ∃ q, (t.session q).map Session.rank = some k) ∧ ranks.toNat < 16 ∧
            s.answered p { command := codeOpen, tag := tag, result := .ok,
                            payload := [byteOfNat p.val, rank, l1, l0, ranks] } t) ∧
          t.session p =
            some { rank := Fin.ofNat 4 rank.toNat, idleLimit := l1 ++ l0, elapsed := 0, mask := BitVec.allOnes 11,
                    records := EventRecords.empty, reader := none } ∧
          (∀ q, q ≠ p → t.session q = s.session q) ∧
          t = { s with sessions := t.sessions, ports := t.ports, executor := t.executor }

/-- CLOSE ends the session, frees and parks everything it owned, and keeps the queues of its port (R137, R138, R147,
R175). -/
def Obligations.CloseEndsTheSessionAndParks : Prop :=
  ∀ (s : State) (p : PortId) (tag : Byte), s.gatesOk →
    s.nextRequest = some (p, { command := codeClose, tag := tag, payload := [] }) → s.session p ≠ none →
    ∃ t, exec (.closeSession p tag []) s = .next t ∧
      s.answered p { command := codeClose, tag := tag, result := .ok, payload := [] } t ∧
      t.session p = none ∧ (∀ q, q ≠ p → t.session q = s.session q) ∧
      s.parkedFrom (fun r => decide (s.owner r = some p)) t ∧
      t = { s with sessions := t.sessions, claims := t.claims, channels := t.channels, entries := t.entries, gates := t.gates,
                    time := t.time, ports := t.ports, executor := t.executor }

/-- A session whose idle timer has reached its limit closes, its queues are discarded and EXPIRED is set (R135, R138,
R139, R170, R175). Rests in part on the choices of the model in log entries 1, 10, 26. -/
def Obligations.ExpiryClosesAndDiscards : Prop :=
  ∀ (s : State) (p : PortId), s.gatesOk →
    ∃ t, exec (.sessionExpiry p) s = .next t ∧
      ((∀ ses, s.session p = some ses → ses.idleLimit = 0 ∨ ses.elapsed < ses.idleLimit.toNat * 10000) → t = s) ∧
      (s.mark.sampled ≠ .pulseEdge ∨ s.executor.took = true → s.expiryBarred p = false) ∧
      (s.expiryBarred p = true → t = s) ∧
      ∀ ses, s.session p = some ses → ses.idleLimit ≠ 0 → ses.idleLimit.toNat * 10000 ≤ ses.elapsed →
        s.expiryBarred p = false →
        t = s.expire p ∧ t.session p = none ∧ (∀ q, q ≠ p → t.session q = s.session q) ∧
          s.parkedFrom (fun r => decide (s.owner r = some p)) t ∧
          (t.port p).requests = [] ∧ (t.port p).responses = [] ∧ (t.port p).expired = true ∧
          (t.port p).frameErr = (s.port p).frameErr ∧ (t.port p).refused = (s.port p).refused ∧
          (t.port p).receive =
            (match (s.port p).receive with
              | .inTransaction tr =>
                if (s.port p).responses = [] then .inTransaction tr
                else
                  .inTransaction
                    { tr with chosen := none
                              gone := (tr.chosen.map (fun r =>
                                (r, if tr.shown then Config.begunBytes s.discards else 0))).or tr.gone }
              | other => other) ∧
          (∀ tr r k, (s.port p).receive = .inTransaction tr → tr.chosen = some r → (s.port p).responses ≠ [] →
            (t.port p).outByte (k + 1) = some (if tr.shown = true ∧ k < Config.begunBytes s.discards then r.bytes.getD k 0 else 0)) ∧
          (∀ q, q ≠ p → t.port q = s.port q) ∧
          t = { s with sessions := t.sessions, claims := t.claims, channels := t.channels, entries := t.entries
                       gates := t.gates, time := t.time, ports := t.ports, discards := s.discards + 1 }

/-- PING and DEVICE_INFO report and change nothing (R141, R136, R182). -/
def Obligations.PingAndDeviceInfoReport : Prop :=
  ∀ (s : State) (p : PortId) (tag : Byte) (ses : Session), s.session p = some ses →
    (s.nextRequest = some (p, { command := codePing, tag := tag, payload := [] }) →
      ∃ t, exec (.ping p tag []) s = .next t ∧ ∃ ranks : Byte,
        (∀ k : Fin 4, ranks.getLsbD k.val = true ↔ ∃ q, (s.session q).map Session.rank = some k) ∧ ranks.toNat < 16 ∧
          s.onlyAnswered p
            { command := codePing, tag := tag, result := .ok,
               payload := [byteOfNat p.val, byteOfNat ses.rank.val] ++ bytesOfNat 2 ses.idleLimit.toNat ++
                 bytesOfNat 2
                   (if ses.idleLimit = 0 then 65535 else (ses.idleLimit.toNat * 10000 - ses.elapsed) / 10000) ++
                 bytesOfNat 2 ses.mask.toNat ++
                 [ranks, byteOfFlag ses.reader.isSome,
                  byteOfNat (allResources.filter (fun r => decide (s.owner r = some p))).length] } t) ∧
      (s.nextRequest = some (p, { command := codeDeviceInfo, tag := tag, payload := [] }) →
        ∃ t, exec (.deviceInfo p tag []) s = .next t ∧
          s.onlyAnswered p
            { command := codeDeviceInfo, tag := tag, result := .ok,
               payload := [0x19, 0x04, 1, 4, 6, 8, 8, 6, 24, 8, 47, 1, 0, 4, 48, 248] } t)

/-- DEVICE_RESET from rank 3 empties queues, sessions, claims and log, and resets the blocks; the timebase runs on
(R142, R143, R23, R69, R91, R115, R131, R170, R175). Rests in part on the choices of the model in log entries 12, 22,
26, 28, 34. -/
def Obligations.DeviceResetReturnsTheBlocks : Prop :=
  ∀ (s : State) (p : PortId) (tag : Byte) (ses : Session), s.ownersOpen →
    s.nextRequest = some (p, { command := codeDeviceReset, tag := tag, payload := [] }) → s.session p = some ses →
    ∃ t, exec (.deviceReset p tag []) s = .next t ∧
      if ses.rank ≠ 3 then s.refused p codeDeviceReset tag .notPermitted t
      else
        let u := s.underway.foldl (fun v c => (v.handOver c).1) { s with underway := [] }
        (∀ q, t.session q = none) ∧ (∀ r, t.owner r = none) ∧
          (∀ q, (t.port q).requests = [] ∧
            (t.port q).responses =
              (if q = p then
                [{ command := codeDeviceReset, tag := tag, result := .ok,
                    payload := bytesOfNat 6 s.time.tick.toNat ++ [s.time.epoch] ++ bytesOfNat 4 u.log.head.toNat }]
              else []) ∧
            (t.port q).expired = (s.port q).expired ∧ (t.port q).frameErr = (s.port q).frameErr ∧
            (t.port q).refused = (s.port q).refused ∧
            (t.port q).receive =
              match (s.port q).receive with
              | .inTransaction tr =>
                if (s.port q).responses = [] then .inTransaction tr
                else
                  .inTransaction
                    { tr with chosen := none
                              gone := (tr.chosen.map (fun r =>
                                (r, if tr.shown then Config.begunBytes (s.discards + q.val) else 0))).or tr.gone }
              | other => other) ∧
          t.executor = { last := p, took := true } ∧
          t.log = { records := [], head := u.log.head, tail := u.log.head, drops := 0 } ∧
          t.time = { s.time with align := .idle, preload := 0 } ∧
          t.mark = { s.mark with captureSet := 0, notify := false, drive := .idle, remaining := 0, endDue := false } ∧
          (∀ n, t.axis n =
            { s.axis n with mode := .off, invert := false, filter := 0, span := 0, state := .off, cause := .none, count := 0,
                             turns := 0, phaseErrors := 0 }) ∧
          (∀ l, t.trigLine l = { s.trigLine l with filter := 0 }) ∧
          (∀ c, t.channel c = State.reset.channel c) ∧ (∀ e, t.entry e = State.reset.entry e) ∧
          (∀ g, t.gate g = State.reset.gate g) ∧ t.underway = [] ∧ t.discards = s.discards + 4 ∧ t.pending = s.pending

/-- CLAIM grants a free resource, preempts a lower rank when asked to, and is HELD otherwise (R145, R146, R177, R182).
-/
def Obligations.ClaimGrantsPreemptsOrHolds : Prop :=
  ∀ (s : State) (p : PortId) (tag kind number preempt : Byte) (ses : Session), s.ownersOpen →
    s.nextRequest = some (p, { command := codeClaim, tag := tag, payload := [kind, number, preempt] }) → s.session p = some ses →
    ∃ t, exec (.claim p tag [kind, number, preempt]) s = .next t ∧
      ((∀ r : Resource, r.nameBytes ≠ [kind, number]) →
        if 4 < kind.toNat then s.refused p codeClaim tag .badValue t else s.refused p codeClaim tag .outOfRange t) ∧
      ∀ r : Resource, r.nameBytes = [kind, number] →
        if 1 < preempt.toNat then s.refused p codeClaim tag .badValue t
        else
          match s.owner r with
          | none =>
            s.answered p { command := codeClaim, tag := tag, result := .ok, payload := [1, 0] } t ∧
              t.owner r = some p ∧ (∀ k, k ≠ r → t.owner k = s.owner k) ∧
              t = { s with claims := t.claims, ports := t.ports, executor := t.executor }
          | some q =>
            if q = p then s.onlyAnswered p { command := codeClaim, tag := tag, result := .ok, payload := [2, 0] } t
            else
              ∀ other, s.session q = some other →
                if preempt = 1 ∧ other.rank < ses.rank then
                  s.answered p { command := codeClaim, tag := tag, result := .ok, payload := [3, byteOfNat (128 + 4 * q.val + other.rank.val)] } t ∧
                    t.owner r = some p ∧ (∀ k, k ≠ r → t.owner k = s.owner k) ∧
                    t.session q = some { other with records := other.records.file (.claimLost r) } ∧
                    (∀ k, k ≠ q → t.session k = s.session k) ∧
                    t = { s with claims := t.claims, sessions := t.sessions, ports := t.ports, executor := t.executor }
                else s.refused p codeClaim tag .held t

/-- RELEASE frees and parks the resource of its owner alone; WHO_OWNS reports owners (R147, R148, R149, R177, R182). -/
def Obligations.ReleaseParksAndWhoOwnsReports : Prop :=
  (∀ (s : State) (p : PortId) (tag kind number : Byte), s.gatesOk →
      s.nextRequest = some (p, { command := codeRelease, tag := tag, payload := [kind, number] }) → s.session p ≠ none →
      ∃ t, exec (.release p tag [kind, number]) s = .next t ∧
        ((∀ r : Resource, r.nameBytes ≠ [kind, number]) →
          if 4 < kind.toNat then s.refused p codeRelease tag .badValue t else s.refused p codeRelease tag .outOfRange t) ∧
        ∀ r : Resource, r.nameBytes = [kind, number] →
          if s.owner r ≠ some p then s.refused p codeRelease tag .notOwner t
          else
            s.answered p { command := codeRelease, tag := tag, result := .ok, payload := [] } t ∧ s.parkedFrom (fun k => decide (k = r)) t ∧
              t = { s with claims := t.claims, channels := t.channels, entries := t.entries, gates := t.gates, time := t.time,
                            ports := t.ports, executor := t.executor }) ∧
    (∀ (s : State) (p : PortId) (tag kind number : Byte),
      s.nextRequest = some (p, { command := codeWhoOwns, tag := tag, payload := [kind, number] }) → s.session p ≠ none →
      ∃ t, exec (.whoOwns p tag [kind, number]) s = .next t ∧
        if kind = 0x0F then s.onlyAnswered p { command := codeWhoOwns, tag := tag, result := .ok, payload := allResources.map (fun r => s.ownerByte (s.owner r)) } t
        else
          ((∀ r : Resource, r.nameBytes ≠ [kind, number]) →
            if 4 < kind.toNat then s.refused p codeWhoOwns tag .badValue t else s.refused p codeWhoOwns tag .outOfRange t) ∧
          ∀ r : Resource, r.nameBytes = [kind, number] →
            s.onlyAnswered p { command := codeWhoOwns, tag := tag, result := .ok, payload := [kind, number, s.ownerByte (s.owner r)] } t) ∧
    ∀ s : State, s.ownerByte none = 0 ∧
      ∀ q ses, s.session q = some ses → s.ownerByte (some q) = byteOfNat (128 + 4 * q.val + ses.rank.val)

/-- AXIS_SETUP is checked in its order, replaces mode, invert and filter, and moves the state as R76 gives (R76, R80,
R83, R89, R183). -/
def Obligations.AxisSetupSetsModeAndState : Prop :=
  ∀ (s : State) (p : PortId) (tag n mode invert filter : Byte) (ses : Session),
    s.nextRequest = some (p, { command := codeAxisSetup, tag := tag, payload := [n, mode, invert, filter] }) → s.session p = some ses →
    ∃ t, exec (.axisSetup p tag [n, mode, invert, filter]) s = .next t ∧
      if 5 < n.toNat then s.refused p codeAxisSetup tag .outOfRange t
      else if 5 < mode.toNat ∨ 1 < invert.toNat then s.refused p codeAxisSetup tag .badValue t
      else if 15 < filter.toNat then s.refused p codeAxisSetup tag .outOfRange t
      else if s.owner (.axis (Fin.ofNat 6 n.toNat)) ≠ some p then s.refused p codeAxisSetup tag .notOwner t
      else
        let k : AxisId := Fin.ofNat 6 n.toNat
        let state : AxisState :=
          if mode = 0 then .off else if (s.axis k).state = .off then .counting else (s.axis k).state
        s.answered p { command := codeAxisSetup, tag := tag, result := .ok, payload := [state.code] } t ∧
          t.axis k =
            { s.axis k with mode := modeOfByte mode, invert := decide (invert = 1), filter := filter.toNat, state := state,
                             cause := if mode = 0 then .none else (s.axis k).cause } ∧
          (∀ m, m ≠ k → t.axis m = s.axis m) ∧
          t = { s with axes := t.axes, ports := t.ports, executor := t.executor }

/-- AXIS_SPAN refuses a span that cannot hold the count, else replaces the span alone and offers quietly (R79, R83, R99,
R183). -/
def Obligations.AxisSpanKeepsTheCount : Prop :=
  ∀ (s : State) (p : PortId) (tag n b3 b2 b1 b0 : Byte) (ses : Session), s.gatesOk →
    s.nextRequest = some (p, { command := codeAxisSpan, tag := tag, payload := [n, b3, b2, b1, b0] }) → s.session p = some ses →
    ∃ t, exec (.axisSpan p tag [n, b3, b2, b1, b0]) s = .next t ∧
      let k : AxisId := Fin.ofNat 6 n.toNat
      let span := natOfBytes [b3, b2, b1, b0]
      let x := s.axis k
      if 5 < n.toNat then s.refused p codeAxisSpan tag .outOfRange t
      else if span = 1 ∨ 2147483648 < span ∨ (span ≠ 0 ∧ ¬(0 ≤ x.count ∧ x.count < span)) then
        s.refused p codeAxisSpan tag .outOfRange t
      else if s.owner (.axis k) ≠ some p then s.refused p codeAxisSpan tag .notOwner t
      else
        s.answered p { command := codeAxisSpan, tag := tag, result := .ok, payload := [b3, b2, b1, b0] ++ bytesOfCount x.count ++ bytesOfNat 2 x.turns.toNat } t ∧
          t.axis k = { x with span := span } ∧ (∀ m, m ≠ k → t.axis m = s.axis m) ∧
          s.offeredQuietly k x.count t ∧
          t = { s with axes := t.axes, entries := t.entries, gates := t.gates, ports := t.ports, executor := t.executor }

/-- AXIS_PRESET sets the count outside FAULTED; AXIS_CLEAR_FAULT sets it in FAULTED and returns to COUNTING (R81, R82,
R83, R99, R183). -/
def Obligations.AxisPresetAndClearFaultSetTheCount : Prop :=
  ∀ (s : State) (p : PortId) (tag n : Byte) (value : List Byte) (ses : Session), s.gatesOk → value.length = 5 →
    s.session p = some ses →
    let k : AxisId := Fin.ofNat 6 n.toNat
    let x := s.axis k
    let v := countOfBytes value
    let outside := ¬(if x.span = 0 then -549755813888 ≤ v ∧ v ≤ 549755813887 else 0 ≤ v ∧ v < x.span)
    let y : Axis := { x with count := v, turns := if x.span = 0 then x.turns else 0 }
    (s.nextRequest = some (p, { command := codeAxisPreset, tag := tag, payload := n :: value }) →
      ∃ t, exec (.axisPreset p tag (n :: value)) s = .next t ∧
        if 5 < n.toNat ∨ outside then s.refused p codeAxisPreset tag .outOfRange t
        else if s.owner (.axis k) ≠ some p then s.refused p codeAxisPreset tag .notOwner t
        else if x.state = .faulted then s.refused p codeAxisPreset tag .wrongState t
        else
          s.answered p { command := codeAxisPreset, tag := tag, result := .ok, payload := value ++ bytesOfNat 2 y.turns.toNat } t ∧
            t.axis k = y ∧ (∀ m, m ≠ k → t.axis m = s.axis m) ∧ s.offeredQuietly k v t ∧
            t = { s with axes := t.axes, entries := t.entries, gates := t.gates, ports := t.ports, executor := t.executor }) ∧
      (s.nextRequest = some (p, { command := codeAxisClearFault, tag := tag, payload := n :: value }) →
        ∃ t, exec (.axisClearFault p tag (n :: value)) s = .next t ∧
          if 5 < n.toNat ∨ outside then s.refused p codeAxisClearFault tag .outOfRange t
          else if s.owner (.axis k) ≠ some p then s.refused p codeAxisClearFault tag .notOwner t
          else if x.state ≠ .faulted then s.refused p codeAxisClearFault tag .wrongState t
          else
            s.answered p { command := codeAxisClearFault, tag := tag, result := .ok, payload := value ++ bytesOfNat 2 y.turns.toNat } t ∧
              t.axis k = { y with state := .counting, cause := .none } ∧ (∀ m, m ≠ k → t.axis m = s.axis m) ∧
              s.offeredQuietly k v t ∧
              t = { s with axes := t.axes, entries := t.entries, gates := t.gates, ports := t.ports,
                            executor := t.executor })

/-- AXIS_READ reports the axis, in NARROW limited to 32 bits with CLIPPED, and changes nothing (R84, R85, R183). -/
def Obligations.AxisReadReportsAndClips : Prop :=
  ∀ (s : State) (p : PortId) (tag n form : Byte) (ses : Session),
    s.nextRequest = some (p, { command := codeAxisRead, tag := tag, payload := [n, form] }) → s.session p = some ses →
    ∃ t, exec (.axisRead p tag [n, form]) s = .next t ∧
      let x := s.axis (Fin.ofNat 6 n.toNat)
      let limited : Int := max (-2147483648) (min x.count 2147483647)
      if 5 < n.toNat then s.refused p codeAxisRead tag .outOfRange t
      else if 1 < form.toNat then s.refused p codeAxisRead tag .badValue t
      else
        ∃ b : Byte, (form = 1 → b.getLsbD 0 = decide (limited ≠ x.count)) ∧ b.getLsbD 1 = decide (x.span ≠ 0) ∧
        s.onlyAnswered p
          { command := codeAxisRead, tag := tag, result := .ok,
             payload := [x.mode.code, byteOfFlag x.invert, byteOfNat x.filter] ++ bytesOfNat 4 x.span ++
               [x.state.code, x.cause.code, b] ++
               (if form = 1 then bytesOfNarrow limited else bytesOfCount x.count) ++
               (if x.span = 0 then [] else bytesOfNat 2 x.turns.toNat) ++ [byteOfNat x.phaseErrors] } t

/-- SNAP samples its axes in one tick and hands the same sample to the log when the log flag is set (R3, R58, R86, R181,
R183). Rests in part on the choices of the model in log entry 28. -/
def Obligations.SnapSamplesAndLogsWhenAsked : Prop :=
  ∀ (s : State) (p : PortId) (tag set log form : Byte) (ses : Session),
    s.nextRequest = some (p, { command := codeSnap, tag := tag, payload := [set, log, form] }) → s.session p = some ses →
    ∃ t, exec (.snap p tag [set, log, form]) s = .next t ∧
      if 63 < set.toNat ∨ 1 < log.toNat ∨ 1 < form.toNat then s.refused p codeSnap tag .badValue t
      else
        ∃ (values : List ValueEntry) (wideClip : AxisId → Bool),
          (values.map ValueEntry.axis).Pairwise (· < ·) ∧
            (∀ v, v ∈ values ↔
              set.getLsbD v.axis.val = true ∧ v.count = (s.axis v.axis).count ∧
                v.turns = (if (s.axis v.axis).span = 0 then none else some (s.axis v.axis).turns) ∧
                (v.faulted = true ↔ (s.axis v.axis).state = .faulted)) ∧
            let out := s.capture { stamp := s.stamp, cause := .host p, values := values }
            let entryBytes := fun v : ValueEntry =>
              let limited : Int := max (-2147483648) (min v.count 2147483647)
              let clip : Bool := if form = 1 then decide (limited ≠ v.count) else wideClip v.axis
              [byteOfNat (v.axis.val + (if clip then 32 else 0) +
                  (if v.turns = none then 0 else 64) + (if v.faulted then 128 else 0))] ++
                (if form = 1 then bytesOfNarrow limited else bytesOfCount v.count) ++
                ((v.turns.map (fun k => bytesOfNat 2 k.toNat)).getD [])
            let outcome : List Byte :=
              if log = 0 then [0]
              else
                match out.2 with
                | some seq => 1 :: bytesOfNat 4 seq.toNat
                | none => [2]
            s.answered p
                { command := codeSnap, tag := tag, result := .ok,
                   payload := bytesOfNat 6 s.time.tick.toNat ++ [s.time.epoch] ++ outcome ++ [byteOfNat values.length] ++
                     values.flatMap entryBytes } t ∧
              t.log = (if log = 0 then s.log else out.1.log) ∧
              t.sessions = (if log = 0 then s.sessions else out.1.sessions) ∧
              t = { s with log := t.log, sessions := t.sessions, ports := t.ports, executor := t.executor }

/-- A change of A and B is sampled once a tick, decoded, and steps or faults an axis in COUNTING; no pulse starts once a
re-arm stands (R71, R72, R75, R76, R77, R78, R83, R87, R89, R99, R100, R122). Rests in part on the choices of the model
in log entries 3, 9, 10. -/
def Obligations.AxisLevelsAreDecodedOnceATick : Prop :=
  ∀ (s : State) (n : AxisId) (a b : Level) (entries : List EntryId) (channels : ChannelOrder),
    ∃ t, exec (.axisLevelChange n (.ab a b entries channels)) s = .next t ∧ (s.rearmStands = true → t.mark = s.mark) ∧
      let x := s.axis n
      let shown : Axis := { x with a := { x.a with raw := a }, b := { x.b with raw := b } }
      let fa := shown.a.sample x.sampleFilter
      let fb := shown.b.sample x.sampleFilter
      let y : Axis := { x with a := fa, b := fb, sampledAB := true }
      let d := decodeLevels x.mode (if x.a.primed then x.a.level else fa.level)
        (if x.b.primed then x.b.level else fb.level) fa.level fb.level
      if x.sampledAB = false ∧ s.rearmStands = true ∧ (s.setAxis n shown).startsPulse n = true then
        ∃ u, exec (.axisLevelChange n (.ab x.a.raw x.b.raw entries channels)) s = .next u ∧
          t = u.setAxis n { u.axis n with a := { (u.axis n).a with raw := a }, b := { (u.axis n).b with raw := b } }
      else
        ∃ u, u.reached channels.log t ∧
          s.everyOrder u (fun log => .axisLevelChange n (.ab a b entries { channels with log := log })) ∧
          let faulted := fun z : Axis =>
            u.axis n = z ∧ (∀ m, m ≠ n → u.axis m = s.axis m) ∧
              (∀ q, u.session q =
                if s.owner (.axis n) = some q then
                  (s.session q).map (fun ses => { ses with records := ses.records.file (.axisFault n) })
                else s.session q) ∧
              u = { s with axes := u.axes, sessions := u.sessions }
          if x.sampledAB then u = s.setAxis n shown
          else if x.state ≠ .counting then u = s.setAxis n y
          else
            match d with
            | .nothing => u = s.setAxis n y
            | .phaseError =>
              faulted { y with state := .faulted, cause := .phase
                               phaseErrors := if x.phaseErrors < 255 then x.phaseErrors + 1 else x.phaseErrors }
            | .step up =>
              match y.stepped (if x.invert then !up else up) with
              | none => faulted { y with state := .faulted, cause := .overrange }
              | some z =>
                ∃ order : List EntryId, order.Nodup ∧ (∀ e, e ∈ order ↔ (s.entry e).axis = n) ∧
                  let offered := order.foldl (State.offerEntry .step z.count) (s.setAxis n z)
                  let takers := fun l : List ChannelId => l.Nodup ∧ ∀ c, c ∈ l ↔ ∃ e,
                    (s.channel c).config.source = .entry e ∧ (s.entry e).axis = n ∧ (s.entry e).enabled = true ∧
                      (s.entry e).met = false ∧ (s.entry e).condition z.count = true
                  (∃ l, takers l ∧ u = l.foldl State.triggerEvent offered) ∧
                    ∀ l, takers l → ∃ v,
                      exec (.axisLevelChange n (.ab a b entries { channels with events := l })) s = .next v ∧
                        (l.foldl State.triggerEvent offered).reached channels.log v

/-- The decoder reads the quadrature cycle 00, 10, 11, 01, the rises of PULSE_DIR and the rises of UP_DOWN (R72, R73,
R74, R75). -/
def Obligations.DecoderFollowsTheModes : Prop :=
  ∀ a0 b0 a b : Level,
    let d := quadraturePlace a b - quadraturePlace a0 b0
    let aRose := a0 = .low ∧ a = .high
    let bRose := b0 = .low ∧ b = .high
    decodeLevels .quad4 a0 b0 a b =
        (if d = 0 then .nothing else if d = 1 then .step true else if d = 3 then .step false else .phaseError) ∧
      decodeLevels .quad2 a0 b0 a b =
        (if d = 2 then .phaseError else if a = a0 then .nothing else .step (decide (d = 1))) ∧
      decodeLevels .quad1 a0 b0 a b =
        (if d = 2 then .phaseError else if a ≠ a0 ∧ b = .low then .step (decide (a = .high)) else .nothing) ∧
      decodeLevels .pulseDir a0 b0 a b = (if aRose then .step (decide (b = .low)) else .nothing) ∧
      decodeLevels .upDown a0 b0 a b =
        (if aRose ∧ bRose then .phaseError else if aRose then .step true else if bRose then .step false else .nothing) ∧
      decodeLevels .off a0 b0 a b = .nothing

/-- A step moves a linear count by one up to its limits, and the position turns x span + count of a modulo axis by one
(R77, R78). -/
def Obligations.StepsMoveTheCountByOne : Prop :=
  ∀ (x : Axis) (up : Bool),
    (x.span = 0 → x.inRange x.count = true →
      x.stepped up =
        if (up = true ∧ x.count = 549755813887) ∨ (up = false ∧ x.count = -549755813888) then none
        else some { x with count := if up then x.count + 1 else x.count - 1 }) ∧
    (x.span ≠ 0 → 0 ≤ x.count → x.count < x.span →
      ∃ y, x.stepped up = some y ∧ y = { x with count := y.count, turns := y.turns } ∧ 0 ≤ y.count ∧ y.count < x.span ∧
        (65536 * (x.span : Int)) ∣
          (y.turns.toInt * x.span + y.count) - (x.turns.toInt * x.span + x.count) - (if up then 1 else -1))

/-- A filter of value F takes a new level at its sample F + 1 in a row, and forgets the count when the old level shows
again (R45, R71). -/
def Obligations.FilterAcceptsAtSampleFPlusOne : Prop :=
  (∀ (l : FilteredLine) (F k : Nat), l.primed = true → l.raw ≠ l.level → l.run = 0 →
      (k ≤ F → (Nat.iterate (fun x => FilteredLine.sample x F) k l).level = l.level) ∧
        (Nat.iterate (fun x => FilteredLine.sample x F) (F + 1) l).level = l.raw) ∧
    (∀ (l : FilteredLine) (F : Nat), l.primed = true → l.raw = l.level → l.sample F = { l with run := 0 }) ∧
    (∀ (l : FilteredLine) (F : Nat), l.primed = true → l.raw ≠ l.level →
      l.sample F = if F ≤ l.run then { l with level := l.raw, run := 0 } else { l with run := l.run + 1 }) ∧
    ∀ (l : FilteredLine) (F : Nat), l.primed = false → l.sample F = { l with level := l.raw, run := 0, primed := true }

/-- An offer updates met; a STEP that turns it true is a hit with its hand-overs, the trigger events apart (R93, R99,
R100, R101, R107, R108). Rests in part on the choices of the model in log entries 3, 10. -/
def Obligations.OfferUpdatesMetAndHitsOnce : Prop :=
  (∀ (x : Entry) (v : Int),
      x.condition v = true ↔
        match x.kind with
        | .atPoint => v = x.a
        | .above => x.a < v
        | .below => v < x.a
        | .inside => (x.a ≤ x.b ∧ x.a ≤ v ∧ v ≤ x.b) ∨ (x.b < x.a ∧ (x.a ≤ v ∨ v ≤ x.b))
        | .outside => ¬((x.a ≤ x.b ∧ x.a ≤ v ∧ v ≤ x.b) ∨ (x.b < x.a ∧ (x.a ≤ v ∨ v ≤ x.b)))) ∧
    ∀ (s : State) (e : EntryId) (kind : OfferKind) (v : Int),
      let x := s.entry e
      let t := State.offerEntry kind v s e
      let hit := kind = .step ∧ x.met = false ∧ x.condition v = true
      (x.enabled = false → t = s) ∧
      (x.enabled = true → ¬hit →
        t.entry e = { x with met := x.condition v } ∧ (∀ k, k ≠ e → t.entry k = s.entry k) ∧
          (∀ g, t.gate g =
            if (s.gate g).mode = .follow ∧ inSet (s.gate g).sources e.val = true ∧ x.condition v ≠ x.met then
              { s.gate g with output :=
                  if ∃ k : EntryId, inSet (s.gate g).sources k.val = true ∧ (t.entry k).met = true then .active
                  else .inactive }
            else s.gate g) ∧
          t = { s with entries := t.entries, gates := t.gates }) ∧
      (x.enabled = true → hit →
        ∃ u : State,
          u = { s with entries := u.entries, gates := u.gates } ∧
          u.entry e =
            { x with met := true, hits := if x.hits < 255 then x.hits + 1 else x.hits, lastHit := some s.stamp } ∧
          (∀ k, k ≠ e → u.entry k = s.entry k) ∧
          (∀ g, u.gate g =
            if (s.gate g).mode = .follow ∧ inSet (s.gate g).sources e.val = true then { s.gate g with output := .active }
            else s.gate g) ∧
          let w := if x.event then u.raiseToOwner (.entry e) (.cmpHit e) else u
          t = { w with entries := t.entries, gates := t.gates, mark := t.mark } ∧
            (∀ g, t.gate g =
              if (s.gate g).mode = .pulse ∧ inSet (s.gate g).sources e.val = true then
                { s.gate g with remaining := (s.gate g).width, output := .active, endDue := false }
              else u.gate g) ∧
            (∀ k, k ≠ e → t.entry k = s.entry k) ∧
            t.entry e =
              (if x.markFlag = true ∧ s.mark.drive = .driving then
                { u.entry e with suppressed := if x.suppressed < 255 then x.suppressed + 1 else x.suppressed }
              else u.entry e) ∧
            t.mark =
              (if x.markFlag = true ∧ s.mark.drive = .idle then
                if s.mark.sampled = .rearmed then
                  { s.mark with drive := .driving, remaining := 8, endDue := false, recognizer := .held, highRun := 3,
                                 lowRun := 0, sampled := .notYet }
                else { s.mark with drive := .driving, remaining := 8, endDue := false }
              else s.mark))

/-- CMP_SETUP is checked in the order of R95 and leaves the entry DISABLED with a cleared hit record (R95, R96, R107,
R187). -/
def Obligations.CmpSetupChecksBoundsAndDisables : Prop :=
  ∀ (s : State) (p : PortId) (tag e n kind event mark : Byte) (av bv : List Byte) (ses : Session), s.gatesOk →
    av.length = 5 → bv.length = 5 →
    s.nextRequest = some (p, { command := codeCmpSetup, tag := tag, payload := [e, n, kind] ++ av ++ bv ++ [event, mark] }) → s.session p = some ses →
    ∃ t, exec (.cmpSetup p tag ([e, n, kind] ++ av ++ bv ++ [event, mark])) s = .next t ∧
      let k : EntryId := Fin.ofNat 24 e.toNat
      let x := s.axis (Fin.ofNat 6 n.toNat)
      let a := countOfBytes av
      let b := countOfBytes bv
      let inside := fun v : Int => if x.span = 0 then -549755813888 ≤ v ∧ v ≤ 549755813887 else 0 ≤ v ∧ v < x.span
      let usesB := kind = 3 ∨ kind = 4
      if 23 < e.toNat ∨ 5 < n.toNat then s.refused p codeCmpSetup tag .outOfRange t
      else if 4 < kind.toNat ∨ 1 < event.toNat ∨ 1 < mark.toNat then s.refused p codeCmpSetup tag .badValue t
      else if ¬inside a ∨ (usesB ∧ ¬inside b) then s.refused p codeCmpSetup tag .outOfRange t
      else if usesB ∧ b < a ∧ x.span = 0 then s.refused p codeCmpSetup tag .badValue t
      else if s.owner (.entry k) ≠ some p then s.refused p codeCmpSetup tag .notOwner t
      else
        s.answered p { command := codeCmpSetup, tag := tag, result := .ok, payload := [] } t ∧
          t.entry k =
            { axis := Fin.ofNat 6 n.toNat, kind := kindOfByte kind, a := a, b := if usesB then b else 0,
               event := decide (event = 1), markFlag := decide (mark = 1), enabled := false, met := false, hits := 0,
               lastHit := none, suppressed := 0 } ∧
          (∀ m, m ≠ k → t.entry m = s.entry m) ∧
          (∀ g, t.gate g = { s.gate g with output := t.gateLevel (s.gate g) }) ∧
          t = { s with entries := t.entries, gates := t.gates, ports := t.ports, executor := t.executor }

/-- CMP_ENABLE evaluates once without a hit; CMP_DISABLE takes met to false; FOLLOW gates see both (R97, R98, R107,
R187). -/
def Obligations.CmpEnableAndDisableMoveMetQuietly : Prop :=
  ∀ (s : State) (p : PortId) (tag e : Byte) (ses : Session), s.gatesOk → s.session p = some ses →
    let k : EntryId := Fin.ofNat 24 e.toNat
    let x := s.entry k
    let m := x.condition (s.axis x.axis).count
    (s.nextRequest = some (p, { command := codeCmpEnable, tag := tag, payload := [e] }) →
      ∃ t, exec (.cmpEnable p tag [e]) s = .next t ∧
        if 23 < e.toNat then s.refused p codeCmpEnable tag .outOfRange t
        else if s.owner (.entry k) ≠ some p then s.refused p codeCmpEnable tag .notOwner t
        else
          s.answered p { command := codeCmpEnable, tag := tag, result := .ok, payload := [if m then 1 else 0] } t ∧
            t.entry k = { x with enabled := true, met := m } ∧ (∀ j, j ≠ k → t.entry j = s.entry j) ∧
            (∀ g, t.gate g = { s.gate g with output := t.gateLevel (s.gate g) }) ∧
            t = { s with entries := t.entries, gates := t.gates, ports := t.ports, executor := t.executor }) ∧
      (s.nextRequest = some (p, { command := codeCmpDisable, tag := tag, payload := [e] }) →
        ∃ t, exec (.cmpDisable p tag [e]) s = .next t ∧
          if 23 < e.toNat then s.refused p codeCmpDisable tag .outOfRange t
          else if s.owner (.entry k) ≠ some p then s.refused p codeCmpDisable tag .notOwner t
          else
            s.answered p { command := codeCmpDisable, tag := tag, result := .ok, payload := [] } t ∧
              t.entry k = { x with enabled := false, met := false } ∧ (∀ j, j ≠ k → t.entry j = s.entry j) ∧
              (∀ g, t.gate g = { s.gate g with output := t.gateLevel (s.gate g) }) ∧
              t = { s with entries := t.entries, gates := t.gates, ports := t.ports, executor := t.executor })

/-- GATE_SETUP replaces the configuration, cuts a pulse and recomputes; GATE_SET stores the level and acts in MANUAL
(R109, R110, R106, R187). -/
def Obligations.GateSetupAndGateSetDriveTheOutput : Prop :=
  ∀ (s : State) (p : PortId) (tag g : Byte) (ses : Session), s.session p = some ses →
    let k : GateId := Fin.ofNat 8 g.toNat
    let x := s.gate k
    (∀ mode polarity s3 s2 s1 s0 w1 w0 : Byte,
      s.nextRequest = some (p, { command := codeGateSetup, tag := tag, payload := [g, mode, polarity, s3, s2, s1, s0, w1, w0] }) →
      ∃ t, exec (.gateSetup p tag [g, mode, polarity, s3, s2, s1, s0, w1, w0]) s = .next t ∧
        let sources : EntrySet := BitVec.ofNat 24 (natOfBytes [s3, s2, s1, s0])
        let output : Activity :=
          if mode = 0 then x.manual
          else if mode = 1 ∧ ∃ e : EntryId, inSet sources e.val = true ∧ (s.entry e).met = true then .active
          else .inactive
        if 7 < g.toNat then s.refused p codeGateSetup tag .outOfRange t
        else if 2 < mode.toNat ∨ 1 < polarity.toNat ∨ s3 ≠ 0 then s.refused p codeGateSetup tag .badValue t
        else if w1 = 0 ∧ w0 = 0 then s.refused p codeGateSetup tag .outOfRange t
        else if s.owner (.gate k) ≠ some p then s.refused p codeGateSetup tag .notOwner t
        else
          s.answered p { command := codeGateSetup, tag := tag, result := .ok, payload := [output.code] } t ∧
            t.gate k =
              { x with mode := if mode = 0 then .manual else if mode = 1 then .follow else .pulse,
                        polarity := if polarity = 0 then .normal else .inverted, sources := sources,
                        width := w1.toNat * 256 + w0.toNat, remaining := 0, endDue := false, output := output } ∧
            ((t.gate k).pin = .high ↔ (polarity = 0 ↔ output = .active)) ∧
            (∀ j, j ≠ k → t.gate j = s.gate j) ∧
            t = { s with gates := t.gates, ports := t.ports, executor := t.executor }) ∧
      ∀ level : Byte,
        s.nextRequest = some (p, { command := codeGateSet, tag := tag, payload := [g, level] }) →
        ∃ t, exec (.gateSet p tag [g, level]) s = .next t ∧
          let stored : Activity := if level = 0 then .inactive else .active
          let output := if x.mode = .manual then stored else x.output
          if 7 < g.toNat then s.refused p codeGateSet tag .outOfRange t
          else if 1 < level.toNat then s.refused p codeGateSet tag .badValue t
          else if s.owner (.gate k) ≠ some p then s.refused p codeGateSet tag .notOwner t
          else
            s.answered p { command := codeGateSet, tag := tag, result := .ok, payload := [output.code] } t ∧
              t.gate k = { x with manual := stored, output := output } ∧ (∀ j, j ≠ k → t.gate j = s.gate j) ∧
              t = { s with gates := t.gates, ports := t.ports, executor := t.executor }

/-- TRIG_STATUS, CMP_STATUS and GATE_STATUS report every field and change nothing (R61, R103, R106, R111, R178, R185,
R187). -/
def Obligations.StatusRequestsReportAndChangeNothing : Prop :=
  (∀ (s : State) (p : PortId) (tag i : Byte) (ses : Session), s.session p = some ses →
    (s.nextRequest = some (p, { command := codeTrigStatus, tag := tag, payload := [i] }) →
      ∃ t, exec (.trigStatus p tag [i]) s = .next t ∧
        let x := s.channel (Fin.ofNat 8 i.toNat)
        let k := x.config
        if 7 < i.toNat then s.refused p codeTrigStatus tag .outOfRange t
        else
          s.onlyAnswered p
            { command := codeTrigStatus, tag := tag, result := .ok,
               payload := [k.source.kindCode, k.source.numberCode, k.edge.code, byteOfNat k.axes.toNat, k.mode.code,
                   byteOfNat k.burstCount] ++ bytesOfNat 2 k.interval ++ [byteOfNat k.prereqs.toNat, byteOfFlag k.notify] ++
                 [x.state.code, byteOfNat x.outstanding.toNat, byteOfNat x.remaining, byteOfNat x.nextIndex] ++
                 bytesOfNat 2 x.fires.toNat ++ bytesOfNat 2 x.ignored ++ bytesOfNat 2 x.dropped } t) ∧
    (s.nextRequest = some (p, { command := codeCmpStatus, tag := tag, payload := [i] }) →
      ∃ t, exec (.cmpStatus p tag [i]) s = .next t ∧
        let x := s.entry (Fin.ofNat 24 i.toNat)
        if 23 < i.toNat then s.refused p codeCmpStatus tag .outOfRange t
        else
          s.onlyAnswered p
            { command := codeCmpStatus, tag := tag, result := .ok,
               payload := [byteOfNat x.axis.val, x.kind.code] ++ bytesOfCount x.a ++ bytesOfCount x.b ++
                 [byteOfFlag x.event, byteOfFlag x.markFlag, byteOfFlag x.enabled, byteOfFlag x.met, byteOfNat x.hits] ++
                 (match x.lastHit with
                   | none => [0, 0, 0, 0, 0, 0, 0, 0]
                   | some h => [1] ++ bytesOfNat 6 h.tick.toNat ++ [h.epoch]) ++ [byteOfNat x.suppressed] } t) ∧
    (s.nextRequest = some (p, { command := codeGateStatus, tag := tag, payload := [i] }) →
      ∃ t, exec (.gateStatus p tag [i]) s = .next t ∧
        let x := s.gate (Fin.ofNat 8 i.toNat)
        let high := (x.polarity = .normal ∧ x.output = .active) ∨ (x.polarity = .inverted ∧ x.output = .inactive)
        if 7 < i.toNat then s.refused p codeGateStatus tag .outOfRange t
        else
          s.onlyAnswered p
            { command := codeGateStatus, tag := tag, result := .ok,
               payload := [x.mode.code, x.polarity.code] ++ bytesOfNat 4 x.sources.toNat ++ bytesOfNat 2 x.width ++
                 [x.manual.code] ++ bytesOfNat 2 x.remaining ++ [x.output.code, if high then 1 else 0] } t)) ∧
    [DecodeMode.off, .quad1, .quad2, .quad4, .pulseDir, .upDown].map DecodeMode.code = [0, 1, 2, 3, 4, 5] ∧
    [AxisState.off, .counting, .faulted].map AxisState.code = [0, 1, 2] ∧
    [FaultCause.none, .phase, .overrange].map FaultCause.code = [0, 1, 2] ∧
    (∀ (l : LineId) (n : AxisId) (e : EntryId),
      [Source.line l, .index n, .mark, .entry e, .host].map Source.kindCode = [0, 1, 2, 3, 4] ∧
        [Source.line l, .index n, .mark, .entry e, .host].map Source.numberCode =
          [byteOfNat l.val, byteOfNat n.val, 0, byteOfNat e.val, 0]) ∧
    [Edge.rising, .falling, .both].map Edge.code = [0, 1, 2] ∧ [ArmMode.once, .every].map ArmMode.code = [0, 1] ∧
    [ChannelState.disarmed, .waiting, .armed, .bursting, .spent].map ChannelState.code = [0, 1, 2, 3, 4] ∧
    [ReaderMode.keep, .lossy].map ReaderMode.code = [0, 1] ∧
    [CompareKind.atPoint, .above, .below, .inside, .outside].map CompareKind.code = [0, 1, 2, 3, 4] ∧
    [GateMode.manual, .follow, .pulse].map GateMode.code = [0, 1, 2] ∧
    [Polarity.normal, .inverted].map Polarity.code = [0, 1] ∧ [Activity.inactive, .active].map Activity.code = [0, 1] ∧
    [Level.low, .high].map levelCode = [0, 1] ∧ [AlignState.idle, .armed].map AlignState.code = [0, 1] ∧
    [DriveState.idle, .driving].map DriveState.code = [0, 1] ∧ [Recognizer.ready, .held].map Recognizer.code = [0, 1]

/-- A trigger event or TRIG_FIRE fires a channel in ARMED alone; in WAITING and BURSTING an event is ignored and counted
(R9, R49, R50, R51, R52, R53, R59, R60, R62, R172, R185). Rests in part on the choices of the model in log entries 3,
28. -/
def Obligations.ChannelsFireOnlyInArmed : Prop :=
  (∀ (s : State) (c : ChannelId),
      let x := s.channel c
      let t := s.triggerEvent c
      (x.state = .disarmed ∨ x.state = .spent → t = s) ∧
      (x.state = .waiting ∨ x.state = .bursting →
        t.channel c = { x with ignored := if x.ignored < 65535 then x.ignored + 1 else x.ignored } ∧
          (∀ d, d ≠ c → t.channel d = s.channel d) ∧
          (∀ q, t.session q =
            if s.owner (.channel c) = some q then
              (s.session q).map (fun ses => { ses with records := ses.records.file (.trigIgnored c) })
            else s.session q) ∧
          t = { s with channels := t.channels, sessions := t.sessions }) ∧
      (x.state = .armed → (s.requested (s.channelRequest c 0)).fired c t)) ∧
    (∀ (s : State) (c : Capture),
      let out := s.capture c
      s.handOver c =
        match c.cause with
        | .trigger n _ =>
          let x := s.channel n
          (if out.2 = none then
              out.1.setChannel n { x with dropped := if x.dropped < 65535 then x.dropped + 1 else x.dropped }
            else out.1, out.2)
        | .mark => out
        | .host _ => out) ∧
    ∀ (s : State) (p : PortId) (tag i : Byte) (ses : Session),
      s.nextRequest = some (p, { command := codeTrigFire, tag := tag, payload := [i] }) → s.session p = some ses →
      ∃ t, exec (.trigFire p tag [i]) s = .next t ∧
        let c : ChannelId := Fin.ofNat 8 i.toNat
        if 7 < i.toNat then s.refused p codeTrigFire tag .outOfRange t
        else if s.owner (.channel c) ≠ some p then s.refused p codeTrigFire tag .notOwner t
        else if (s.channel c).state ≠ .armed then s.refused p codeTrigFire tag .wrongState t
        else
          ∃ u, s.fired c u ∧
            s.answered p
              { command := codeTrigFire, tag := tag, result := .ok,
                 payload :=
                   match (u.handOver (s.channelRequest c 0)).2 with
                   | some seq => 1 :: bytesOfNat 4 seq.toNat
                   | none => [2] } t ∧
            t = { (u.handOver (s.channelRequest c 0)).1 with ports := t.ports, executor := t.executor }

/-- A change of a filtered trigger or index level is one trigger event at each channel whose source and edge select it
(R9, R44, R45, R59, R71, R89). Rests in part on the choices of the model in log entries 3, 9, 29, 34. -/
def Obligations.LineChangesAreTriggerEvents : Prop :=
  (∀ (s : State) (l : LineId) (raw : Level) (order : ChannelOrder),
      ∃ t, exec (.trigLevelChange l raw order) s = .next t ∧
        let x := s.trigLine l
        let shown : FilteredLine := { x.line with raw := raw }
        let line := shown.sample x.sampleFilter
        let base := s.setLine l { x with line := line, sampled := true }
        ∃ u, u.reached order.log t ∧ s.everyOrder u (fun log => .trigLevelChange l raw { order with log := log }) ∧
          if x.sampled then u = s.setLine l { x with line := shown }
          else if x.line.primed = false ∨ line.level = x.line.level then u = base
          else
            let takers := fun k : List ChannelId => k.Nodup ∧ ∀ c, c ∈ k ↔
              (s.channel c).config.source = .line l ∧
                ((s.channel c).config.edge = .both ∨ ((s.channel c).config.edge = .rising ∧ line.level = .high) ∨
                  ((s.channel c).config.edge = .falling ∧ line.level = .low))
            (∃ k, takers k ∧ u = k.foldl State.triggerEvent base) ∧
              ∀ k, takers k → ∃ v, exec (.trigLevelChange l raw { order with events := k }) s = .next v ∧
                (k.foldl State.triggerEvent base).reached order.log v) ∧
    ∀ (s : State) (n : AxisId) (raw : Level) (order : ChannelOrder),
      ∃ t, exec (.axisLevelChange n (.z raw order)) s = .next t ∧
        let x := s.axis n
        let shown : FilteredLine := { x.z with raw := raw }
        let line := shown.sample x.sampleFilter
        let base := s.setAxis n { x with z := line, sampledZ := true }
        ∃ u, u.reached order.log t ∧ s.everyOrder u (fun log => .axisLevelChange n (.z raw { order with log := log })) ∧
          if x.sampledZ then u = s.setAxis n { x with z := shown }
          else if x.z.primed = false ∨ line.level = x.z.level then u = base
          else
            let takers := fun k : List ChannelId => k.Nodup ∧ ∀ c, c ∈ k ↔
              (s.channel c).config.source = .index n ∧
                ((s.channel c).config.edge = .both ∨ ((s.channel c).config.edge = .rising ∧ line.level = .high) ∨
                  ((s.channel c).config.edge = .falling ∧ line.level = .low))
            (∃ k, takers k ∧ u = k.foldl State.triggerEvent base) ∧
              ∀ k, takers k → ∃ v, exec (.axisLevelChange n (.z raw { order with events := k })) s = .next v ∧
                (k.foldl State.triggerEvent base).reached order.log v

/-- A burst step that is due captures with its index and counts the burst down, to BURST_END at the last (R9, R54, R57,
R59, R62). Rests in part on the choices of the model in log entries 1, 3. -/
def Obligations.BurstStepCapturesAndCountsDown : Prop :=
  ∀ (s : State) (c : ChannelId) (log : LogOrder), ∃ t, exec (.burstStep { channel := c, log := log }) s = .next t ∧
    ∃ u, u.reached log t ∧ s.everyOrder u (fun order => .burstStep { channel := c, log := order }) ∧
      let x := s.channel c
      if x.state = .bursting ∧ x.stepDue = true then
        u.underway = s.underway ++ [s.channelRequest c x.nextIndex] ∧
          u.channel c =
            (if 1 < x.remaining then
              { x with remaining := x.remaining - 1, nextIndex := x.nextIndex + 1, countdown := x.config.interval,
                        stepDue := false }
            else
              { x with state := if x.config.mode = .once then .spent else .armed, remaining := 0, nextIndex := 0,
                        countdown := 0, stepDue := false }) ∧
          (∀ d, d ≠ c → u.channel d = s.channel d) ∧
          (∀ q, u.session q =
            if ¬(1 < x.remaining) ∧ s.owner (.channel c) = some q then
              (s.session q).map (fun ses => { ses with records := ses.records.file (.burstEnd c false) })
            else s.session q) ∧
          u = { s with channels := u.channels, underway := u.underway, sessions := u.sessions }
      else u = s

/-- TRIG_SETUP is checked in the order of R47 and replaces the configuration; TRIG_LINE_FILTER needs the owned channels
of the line (R46, R47, R60, R178, R185). Rests in part on the choices of the model in log entries 28, 34. -/
def Obligations.TrigSetupAndLineFilterAreChecked : Prop :=
  (∀ (s : State) (p : PortId) (tag i kind number edge axes mode burst i1 i0 prereqs notify : Byte) (ses : Session),
      s.nextRequest = some (p, { command := codeTrigSetup, tag := tag, payload := [i, kind, number, edge, axes, mode, burst, i1, i0, prereqs, notify] }) →
      s.session p = some ses →
      ∃ t, exec (.trigSetup p tag [i, kind, number, edge, axes, mode, burst, i1, i0, prereqs, notify]) s = .next t ∧
        let c : ChannelId := Fin.ofNat 8 i.toNat
        let x := s.channel c
        if 7 < i.toNat then s.refused p codeTrigSetup tag .outOfRange t
        else if 4 < kind.toNat then s.refused p codeTrigSetup tag .badValue t
        else if (kind = 0 ∧ 7 < number.toNat) ∨ (kind = 1 ∧ 5 < number.toNat) ∨ (kind = 3 ∧ 23 < number.toNat) then
          s.refused p codeTrigSetup tag .outOfRange t
        else if 2 < edge.toNat ∨ 63 < axes.toNat ∨ 1 < mode.toNat then s.refused p codeTrigSetup tag .badValue t
        else if burst = 0 ∨ 127 < burst.toNat ∨ (i1 = 0 ∧ i0 = 0) then s.refused p codeTrigSetup tag .outOfRange t
        else if prereqs.getLsbD i.toNat = true ∨ 1 < notify.toNat then s.refused p codeTrigSetup tag .badValue t
        else if s.owner (.channel c) ≠ some p then s.refused p codeTrigSetup tag .notOwner t
        else if x.state ≠ .disarmed ∧ x.state ≠ .spent then s.refused p codeTrigSetup tag .wrongState t
        else
          s.answered p { command := codeTrigSetup, tag := tag, result := .ok, payload := [] } t ∧
            t.channel c =
              { x with
                 config :=
                   { source := sourceOfBytes kind number,
                      edge := if edge = 0 then .rising else if edge = 1 then .falling else .both,
                      axes := BitVec.ofNat 6 axes.toNat, mode := if mode = 0 then .once else .every,
                      burstCount := burst.toNat, interval := i1.toNat * 256 + i0.toNat, prereqs := prereqs,
                      notify := decide (notify = 1) },
                 fires := 0, ignored := 0, dropped := 0 } ∧
            (∀ d, d ≠ c → t.channel d = s.channel d) ∧
            ∃ u now rest, s.arrived now rest u ∧ (∀ r ∈ now, ∃ k, r.cause = .trigger c k) ∧
              (∀ r ∈ rest, ∀ k, r.cause ≠ .trigger c k) ∧
              t = { u with channels := t.channels, ports := t.ports, executor := t.executor }) ∧
    ∀ (s : State) (p : PortId) (tag i filter : Byte) (ses : Session),
      s.nextRequest = some (p, { command := codeTrigLineFilter, tag := tag, payload := [i, filter] }) → s.session p = some ses →
      ∃ t, exec (.trigLineFilter p tag [i, filter]) s = .next t ∧
        let l : LineId := Fin.ofNat 8 i.toNat
        if 7 < i.toNat then s.refused p codeTrigLineFilter tag .outOfRange t
        else if ∃ c : ChannelId, (s.channel c).config.source = .line l ∧ s.owner (.channel c) ≠ none ∧
            s.owner (.channel c) ≠ some p then s.refused p codeTrigLineFilter tag .notOwner t
        else
          s.answered p { command := codeTrigLineFilter, tag := tag, result := .ok, payload := [filter] } t ∧
            t.trigLine l = { s.trigLine l with filter := filter.toNat } ∧ (∀ k, k ≠ l → t.trigLine k = s.trigLine k) ∧
            t = { s with lines := t.lines, ports := t.ports, executor := t.executor }

/-- TRIG_ARM takes DISARMED or SPENT to ARMED or WAITING; TRIG_DISARM takes every state to DISARMED and cuts a burst
(R48, R56, R62, R185). -/
def Obligations.TrigArmAndDisarmMoveTheChannel : Prop :=
  ∀ (s : State) (p : PortId) (tag i : Byte) (ses : Session), s.session p = some ses →
    let c : ChannelId := Fin.ofNat 8 i.toNat
    let x := s.channel c
    let state : ChannelState := if x.config.prereqs = 0 then .armed else .waiting
    (s.nextRequest = some (p, { command := codeTrigArm, tag := tag, payload := [i] }) →
      ∃ t, exec (.trigArm p tag [i]) s = .next t ∧
        if 7 < i.toNat then s.refused p codeTrigArm tag .outOfRange t
        else if s.owner (.channel c) ≠ some p then s.refused p codeTrigArm tag .notOwner t
        else if x.state ≠ .disarmed ∧ x.state ≠ .spent then s.refused p codeTrigArm tag .wrongState t
        else
          s.answered p { command := codeTrigArm, tag := tag, result := .ok, payload := [state.code] } t ∧
            t.channel c =
              { x with state := state, outstanding := x.config.prereqs, remaining := 0, nextIndex := 0, countdown := 0,
                        stepDue := false } ∧
            (∀ d, d ≠ c → t.channel d = s.channel d) ∧
            t = { s with channels := t.channels, ports := t.ports, executor := t.executor }) ∧
      (s.nextRequest = some (p, { command := codeTrigDisarm, tag := tag, payload := [i] }) →
        ∃ t, exec (.trigDisarm p tag [i]) s = .next t ∧
          if 7 < i.toNat then s.refused p codeTrigDisarm tag .outOfRange t
          else if s.owner (.channel c) ≠ some p then s.refused p codeTrigDisarm tag .notOwner t
          else
            s.answered p { command := codeTrigDisarm, tag := tag, result := .ok, payload := [x.state.code, byteOfNat x.remaining] } t ∧
              t.channel c = x.toDisarmed ∧ (∀ d, d ≠ c → t.channel d = s.channel d) ∧
              t.session p =
                some (if x.state = .bursting then { ses with records := ses.records.file (.burstEnd c true) } else ses) ∧
              (∀ q, q ≠ p → t.session q = s.session q) ∧
              t = { s with channels := t.channels, sessions := t.sessions, ports := t.ports, executor := t.executor })

/-- LOG_SUBSCRIBE sets the reader anew and checks its level; LOG_UNSUBSCRIBE removes it (R27, R28, R29, R31, R32, R42,
R186). -/
def Obligations.LogSubscribeAndUnsubscribeSetTheReader : Prop :=
  ∀ (s : State) (p : PortId) (tag : Byte) (ses : Session), s.session p = some ses →
    (∀ mode start w1 w0 : Byte,
      s.nextRequest = some (p, { command := codeLogSubscribe, tag := tag, payload := [mode, start, w1, w0] }) →
      ∃ t, exec (.logSubscribe p tag [mode, start, w1, w0]) s = .next t ∧
        let watermark := w1.toNat * 256 + w0.toNat
        let cursor := if start = 0 then s.log.head else s.log.tail
        let level := decide (watermark ≤ distance s.log.head cursor)
        if 1 < mode.toNat ∨ 1 < start.toNat then s.refused p codeLogSubscribe tag .badValue t
        else if watermark = 0 ∨ 256 < watermark then s.refused p codeLogSubscribe tag .outOfRange t
        else
          s.answered p { command := codeLogSubscribe, tag := tag, result := .ok, payload := bytesOfNat 4 cursor.toNat ++ bytesOfNat 4 s.log.head.toNat ++ bytesOfNat 4 s.log.tail.toNat } t ∧
            t.session p =
              some { ses with
                      reader := some { mode := if mode = 0 then .keep else .lossy, cursor := cursor,
                                        watermark := watermark, level := level, lost := 0 },
                      records := if level then ses.records.file .logLevel else ses.records } ∧
            (∀ q, q ≠ p → t.session q = s.session q) ∧
            t = { s with sessions := t.sessions, ports := t.ports, executor := t.executor }) ∧
      (s.nextRequest = some (p, { command := codeLogUnsubscribe, tag := tag, payload := [] }) →
        ∃ t, exec (.logUnsubscribe p tag []) s = .next t ∧
          match ses.reader with
          | none => s.refused p codeLogUnsubscribe tag .notSubscribed t
          | some r =>
            s.answered p { command := codeLogUnsubscribe, tag := tag, result := .ok, payload := bytesOfNat 4 r.cursor.toNat ++ bytesOfNat 2 r.lost } t ∧
              t.session p = some { ses with reader := none } ∧ (∀ q, q ≠ p → t.session q = s.session q) ∧
              t = { s with sessions := t.sessions, ports := t.ports, executor := t.executor })

/-- LOG_FETCH returns the longest run of records from cursor + skip that keeps to max and to 236 bytes, and changes
nothing (R34, R4, R35, R181). -/
def Obligations.LogFetchReturnsTheLongestFittingRun : Prop :=
  ∀ (s : State) (p : PortId) (tag skip max : Byte) (ses : Session),
    s.nextRequest = some (p, { command := codeLogFetch, tag := tag, payload := [skip, max] }) → s.session p = some ses →
    ∃ t, exec (.logFetch p tag [skip, max]) s = .next t ∧
      if max = 0 ∨ 4 < max.toNat then s.refused p codeLogFetch tag .outOfRange t
      else
        match ses.reader with
        | none => s.refused p codeLogFetch tag .notSubscribed t
        | some r =>
          let size := fun x : Record =>
            14 + 6 * x.values.length + 2 * (x.values.filter (fun v => v.turns.isSome)).length
          let layout := fun x : Record =>
            bytesOfNat 4 x.seq.toNat ++ [x.stamp.epoch] ++ bytesOfNat 6 x.stamp.tick.toNat ++
              (match x.cause with
                | .trigger c k => [byteOfNat c.val, byteOfNat k]
                | .mark => [64, 0]
                | .host q => [byteOfNat (128 + q.val), 0]) ++
              [byteOfNat x.values.length] ++
              x.values.flatMap (fun v =>
                [byteOfNat (v.axis.val + (if v.turns = none then 0 else 64) + (if v.faulted then 128 else 0))] ++
                  bytesOfCount v.count ++ ((v.turns.map (fun k => bytesOfNat 2 k.toNat)).getD []))
          let unread := s.log.records.drop (distance r.cursor s.log.tail + skip.toNat)
          ∃ run : List Record,
            run <+: unread ∧ run.length ≤ max.toNat ∧ (run.map size).sum ≤ 236 ∧
              (run = unread ∨ run.length = max.toNat ∨
                ∃ next, run ++ [next] <+: unread ∧ 236 < (run.map size).sum + size next) ∧
              (s.log.ok → ∀ (k : Nat) (x : Record), run[k]? = some x → x.seq = r.cursor + BitVec.ofNat 32 (skip.toNat + k)) ∧
              s.onlyAnswered p
                { command := codeLogFetch, tag := tag, result := .ok,
                   payload := bytesOfNat 4 r.cursor.toNat ++ bytesOfNat 4 s.log.head.toNat ++ bytesOfNat 2 r.lost ++
                     [if r.level then 1 else 0, byteOfNat run.length] ++ run.flatMap layout } t ∧
              ∀ x ∈ run, (layout x).length = size x

/-- LOG_RELEASE moves the cursor inside the unread records, is STALE behind it and OUT_OF_RANGE past them; LOG_STATUS
reports (R6, R21, R31, R37, R38, R42, R186). -/
def Obligations.LogReleaseMovesTheCursorAndLogStatusReports : Prop :=
  ∀ (s : State) (p : PortId) (tag : Byte) (ses : Session), s.session p = some ses →
    (∀ n3 n2 n1 n0 : Byte, (∀ r, ses.reader = some r → r.ok s.log) →
      s.nextRequest = some (p, { command := codeLogRelease, tag := tag, payload := [n3, n2, n1, n0] }) →
      ∃ t, exec (.logRelease p tag [n3, n2, n1, n0]) s = .next t ∧
        match ses.reader with
        | none => s.refused p codeLogRelease tag .notSubscribed t
        | some r =>
          let next : Seq := BitVec.ofNat 32 (natOfBytes [n3, n2, n1, n0]) + 1
          let d := (next - r.cursor).toNat
          let u := (s.log.head - r.cursor).toNat
          if d = 0 ∨ 2147483648 ≤ d then
            s.onlyAnswered p { command := codeLogRelease, tag := tag, result := .ok, payload := 1 :: (bytesOfNat 4 r.cursor.toNat ++ bytesOfNat 4 s.log.head.toNat) } t
          else if u < d then s.refused p codeLogRelease tag .outOfRange t
          else
            s.answered p { command := codeLogRelease, tag := tag, result := .ok, payload := 0 :: (bytesOfNat 4 next.toNat ++ bytesOfNat 4 s.log.head.toNat) } t ∧
              t.session p =
                some { ses with reader := some { r with cursor := next, level := decide (r.watermark ≤ u - d) } } ∧
              (∀ q, q ≠ p → t.session q = s.session q) ∧
              t = { s with sessions := t.sessions, ports := t.ports, executor := t.executor }) ∧
      (s.nextRequest = some (p, { command := codeLogStatus, tag := tag, payload := [] }) →
        ∃ t, exec (.logStatus p tag []) s = .next t ∧
          s.onlyAnswered p
            { command := codeLogStatus, tag := tag, result := .ok,
               payload := bytesOfNat 4 s.log.tail.toNat ++ bytesOfNat 4 s.log.head.toNat ++ bytesOfNat 2 s.log.drops ++
                 match ses.reader with
                 | none => [0]
                 | some r =>
                   [1, if r.mode = .keep then 0 else 1] ++ bytesOfNat 4 r.cursor.toNat ++ bytesOfNat 2 r.watermark ++
                     bytesOfNat 2 r.lost ++ [if r.level then 1 else 0] } t)

/-- TIME_READ reports timebase and MARK unit; ALIGN_ARM arms with its preload; ALIGN_CANCEL returns to IDLE (R118, R119,
R122, R184). Rests in part on the choices of the model in log entries 10, 14. -/
def Obligations.TimeReadAndAlignmentRequests : Prop :=
  ∀ (s : State) (p : PortId) (tag : Byte) (ses : Session), s.session p = some ses →
    (s.nextRequest = some (p, { command := codeTimeRead, tag := tag, payload := [] }) →
      ∃ t, exec (.timeRead p tag []) s = .next t ∧
        let low :=
          if s.mark.sampled = .notYet then s.mark.drive = .driving ∨ s.mark.outside = .low
          else (s.mark.recognizer = .ready ∧ s.mark.lowRun ≠ 0) ∨ (s.mark.recognizer = .held ∧ s.mark.highRun = 0)
        s.onlyAnswered p
          { levelOpen := true, command := codeTimeRead, tag := tag, result := .ok,
             payload := bytesOfNat 6 s.time.tick.toNat ++ [s.time.epoch] ++
               (if s.time.align = .armed then 1 :: bytesOfNat 6 s.time.preload.toNat else [0]) ++
               [byteOfNat s.mark.captureSet.toNat, if s.mark.notify then 1 else 0,
                if s.mark.drive = .driving then 1 else 0, byteOfNat s.mark.remaining, if low then 0 else 1,
                if s.mark.recognizer = .held ∨ (s.mark.sampled = .rearmed ∧ ∃ n, (s.taken p).startsPulse n = true) then 1
                else 0] } t) ∧
      (∀ payload : List Byte, payload.length = 8 →
        s.nextRequest = some (p, { command := codeAlignArm, tag := tag, payload := payload }) →
        ∃ t, exec (.alignArm p tag payload) s = .next t ∧
          if 281474976710655 < natOfBytes payload then s.refused p codeAlignArm tag .outOfRange t
          else if s.owner .mark ≠ some p then s.refused p codeAlignArm tag .notOwner t
          else
            s.answered p { command := codeAlignArm, tag := tag, result := .ok, payload := payload.drop 2 } t ∧
              t.time = { s.time with align := .armed, preload := BitVec.ofNat 48 (natOfBytes payload) } ∧
              t = { s with time := t.time, ports := t.ports, executor := t.executor }) ∧
      (s.nextRequest = some (p, { command := codeAlignCancel, tag := tag, payload := [] }) →
        ∃ t, exec (.alignCancel p tag []) s = .next t ∧
          if s.owner .mark ≠ some p then s.refused p codeAlignCancel tag .notOwner t
          else
            s.answered p { command := codeAlignCancel, tag := tag, result := .ok, payload := [if s.time.align = .armed then 1 else 0] } t ∧
              t.time = { s.time with align := .idle, preload := 0 } ∧
              t = { s with time := t.time, ports := t.ports, executor := t.executor })

/-- MARK_SETUP sets capture set and notify; MARK_PULSE starts a pulse of 8 ticks or is MARK_BUSY; due pulses end (R108,
R122, R125, R126, R184). Rests in part on the choices of the model in log entries 1, 10. -/
def Obligations.MarkRequestsAndPulseEnds : Prop :=
  (∀ (s : State) (p : PortId) (tag : Byte) (ses : Session), s.session p = some ses →
      (∀ set notify : Byte,
        s.nextRequest = some (p, { command := codeMarkSetup, tag := tag, payload := [set, notify] }) →
        ∃ t, exec (.markSetup p tag [set, notify]) s = .next t ∧
          if 63 < set.toNat ∨ 1 < notify.toNat then s.refused p codeMarkSetup tag .badValue t
          else if s.owner .mark ≠ some p then s.refused p codeMarkSetup tag .notOwner t
          else
            s.answered p { command := codeMarkSetup, tag := tag, result := .ok, payload := [] } t ∧
              t.mark = { s.mark with captureSet := BitVec.ofNat 6 set.toNat, notify := decide (notify = 1) } ∧
              t = { s with mark := t.mark, ports := t.ports, executor := t.executor }) ∧
        (s.nextRequest = some (p, { command := codeMarkPulse, tag := tag, payload := [] }) →
          ∃ t, exec (.markPulse p tag []) s = .next t ∧
            if s.mark.drive = .driving then s.refused p codeMarkPulse tag .markBusy t
            else
              s.answered p { command := codeMarkPulse, tag := tag, result := .ok, payload := bytesOfNat 6 s.time.tick.toNat ++ [s.time.epoch] } t ∧
                t.mark =
                  (if s.mark.sampled = .rearmed then
                    { s.mark with drive := .driving, remaining := 8, endDue := false, recognizer := .held, highRun := 3,
                                   lowRun := 0, sampled := .notYet }
                  else { s.mark with drive := .driving, remaining := 8, endDue := false }) ∧
                t = { s with mark := t.mark, ports := t.ports, executor := t.executor })) ∧
    (∀ s : State, ∃ t, exec .markPulseEnd s = .next t ∧
      t = if s.mark.endDue then s.setMark { s.mark with drive := .idle, remaining := 0, endDue := false } else s) ∧
    ∀ (s : State) (g : GateId), ∃ t, exec (.gatePulseEnd g) s = .next t ∧
      t = if (s.gate g).endDue then s.setGate g { s.gate g with remaining := 0, output := .inactive, endDue := false }
        else s

/-- The fourth low sample of a READY recognizer is one edge that aligns, captures, triggers and notifies; four highs re-
arm (R9, R120, R121, R122, R123, R124). Rests in part on the choices of the model in log entries 1, 3, 10, 25. -/
def Obligations.MarkEdgesAndTheRecognizer : Prop :=
  (∀ (s : State) (outside : Level), ∃ t, exec (.markLineChange outside) s = .next t ∧
      t = { s with mark := { s.mark with outside := outside } }) ∧
    (∀ s : State, ∃ t, exec .recognizerRearm s = .next t ∧
      t = if s.mark.sampled = .notYet ∧ s.mark.recognizer = .held ∧ s.mark.drive = .idle ∧ s.mark.outside = .high ∧
            s.mark.highRun = 3 then
          { s with mark := { s.mark with recognizer := .ready, lowRun := 0, highRun := 0, sampled := .rearmed } }
        else s) ∧
    (∀ m : MarkUnit,
      let low := m.drive = .driving ∨ m.outside = .low
      (m.recognizer = .ready → ¬low → m.sample = ({ m with lowRun := 0, sampled := .taken }, false)) ∧
      (m.recognizer = .ready → low →
        m.sample =
          if m.lowRun < 3 then ({ m with lowRun := m.lowRun + 1, sampled := .taken }, false)
          else
            ({ m with recognizer := .held, lowRun := 0, highRun := 0
                      sampled := if m.outside = .low then .taken else .pulseEdge }, true)) ∧
      (m.recognizer = .held → low → m.sample = ({ m with highRun := 0, sampled := .taken }, false)) ∧
      (m.recognizer = .held → ¬low →
        m.sample =
          if m.highRun < 3 then ({ m with highRun := m.highRun + 1, sampled := .taken }, false)
          else ({ m with recognizer := .ready, lowRun := 0, highRun := 0, sampled := .taken }, false))) ∧
    (∀ s : State,
      (s.nextRequest = none → s.mark.sampled ≠ .pulseEdge → s.resetForced = false) ∧
      ∀ p f, s.nextRequest = some (p, f) →
        (s.acceptsReset p f = false → s.resetForced = false) ∧
        (s.acceptsReset p f = true → s.expiryDue p = false → s.resetForced = true)) ∧
    ∀ (s : State) (events : List ChannelId) (log : LogOrder), ∃ t, exec (.recognisedEdge events log) s = .next t ∧
      ∃ u, u.reached log t ∧ s.everyOrder u (.recognisedEdge events) ∧
        (s.mark.sampled ≠ .notYet ∨ s.mark.recognizer = .held ∨ (s.mark.drive = .idle ∧ s.mark.outside = .high) ∨
            s.mark.lowRun < 3 → u = s) ∧
        (s.mark.outside = .high → s.mark.endDue = true ∨ s.resetForced = true → u = s) ∧
        (s.mark.sampled = .notYet → s.mark.recognizer = .ready → s.mark.lowRun = 3 →
          s.mark.outside = .low ∨ (s.mark.drive = .driving ∧ s.mark.endDue = false ∧ s.resetForced = false) →
          let sampled : SampleMark := if s.mark.outside = .low then .taken else .pulseEdge
          let held := s.setMark { s.mark with recognizer := .held, lowRun := 0, highRun := 0, sampled := sampled }
          let aligned :=
            if s.time.align = .armed then
              (held.setTime { tick := s.time.preload, epoch := s.time.epoch + 1, align := .idle, preload := 0 }).raiseToAll
                .aligned
            else held
          let captured :=
            if s.mark.captureSet = 0 then aligned
            else
              aligned.requested { stamp := { tick := aligned.time.tick, epoch := aligned.time.epoch }, cause := .mark
                                  values := s.sampleAxes s.mark.captureSet }
          let takers := fun k : List ChannelId => k.Nodup ∧ ∀ c, c ∈ k ↔ (s.channel c).config.source = .mark
          let ended := fun k : List ChannelId =>
            let told := k.foldl State.triggerEvent captured
            if s.mark.notify then told.raiseToAll .markSeen else told
          (∃ k, takers k ∧ u = ended k) ∧
            ∀ k, takers k → ∃ v, exec (.recognisedEdge k log) s = .next v ∧ (ended k).reached log v)

/-- EVENT_READ reports, EVENT_MASK replaces the mask, EVENT_ACK reports and clears the named records in one happening
(R155, R156, R157, R158, R188). -/
def Obligations.EventRequestsReportMaskAndClear : Prop :=
  ∀ (s : State) (p : PortId) (tag : Byte) (ses : Session), s.session p = some ses →
    let attention := fun (mask : KindSet) (r : EventRecords) =>
      if allKinds.any (fun kind => mask.getLsbD kind.index && decide (0 < r.count kind))
      then ([1] : List Byte) else [0]
    (∀ h l : Byte,
      let kinds : KindSet := BitVec.ofNat 11 (h.toNat * 256 + l.toNat)
      (s.nextRequest = some (p, { command := codeEventMask, tag := tag, payload := [h, l] }) →
        ∃ t, exec (.eventMask p tag [h, l]) s = .next t ∧
          if 7 < h.toNat then s.refused p codeEventMask tag .badValue t
          else
            s.answered p { command := codeEventMask, tag := tag, result := .ok, payload := [h, l] ++ attention kinds ses.records } t ∧
              t.session p = some { ses with mask := kinds } ∧ (∀ q, q ≠ p → t.session q = s.session q) ∧
              t = { s with sessions := t.sessions, ports := t.ports, executor := t.executor }) ∧
      (s.nextRequest = some (p, { command := codeEventAck, tag := tag, payload := [h, l] }) →
        ∃ t, exec (.eventAck p tag [h, l]) s = .next t ∧
          let left := acknowledged ses.records kinds
          if 7 < h.toNat then s.refused p codeEventAck tag .badValue t
          else
            s.answered p { command := codeEventAck, tag := tag, result := .ok, payload := [h, l] ++ attention ses.mask left ++ recordBytes ses.records kinds } t ∧
              t.session p = some { ses with records := left } ∧ (∀ q, q ≠ p → t.session q = s.session q) ∧
              t = { s with sessions := t.sessions, ports := t.ports, executor := t.executor })) ∧
      (s.nextRequest = some (p, { command := codeEventRead, tag := tag, payload := [] }) →
        ∃ t, exec (.eventRead p tag []) s = .next t ∧
          s.onlyAnswered p { command := codeEventRead, tag := tag, result := .ok, payload := bytesOfNat 2 ses.mask.toNat ++ attention ses.mask ses.records ++ recordBytes ses.records (BitVec.allOnes 11) } t)

/-- A raising adds one to the count of its kind, up to 255, and its resource to the set, at its receivers alone (R152,
R153). -/
def Obligations.EventsAreFiledToTheirReceivers : Prop :=
  (∀ (s : State) (r : Resource) (ev : Event),
      (∀ q, (s.raiseToOwner r ev).session q =
        if s.owner r = some q then (s.session q).map (fun ses => { ses with records := ses.records.file ev })
        else s.session q) ∧
      (∀ q, (s.raiseToAll ev).session q =
        (s.session q).map (fun ses => { ses with records := ses.records.file ev })) ∧
      (∀ q, (s.raiseToReaders ev).session q =
        (s.session q).map
          (fun ses => if ses.reader.isSome then { ses with records := ses.records.file ev } else ses)) ∧
      s.raiseToOwner r ev = { s with sessions := (s.raiseToOwner r ev).sessions } ∧
      s.raiseToAll ev = { s with sessions := (s.raiseToAll ev).sessions } ∧
      s.raiseToReaders ev = { s with sessions := (s.raiseToReaders ev).sessions }) ∧
    ∀ r : EventRecords,
      let up := fun v : Nat => if v < 255 then v + 1 else v
      r.file .logLevel = { r with logLevel := up r.logLevel } ∧ r.file .logDrop = { r with logDrop := up r.logDrop } ∧
        r.file .logLapped = { r with logLapped := up r.logLapped } ∧
        r.file .markSeen = { r with markSeen := up r.markSeen } ∧ r.file .aligned = { r with aligned := up r.aligned } ∧
        (∀ c, ∃ m, r.file (.trigFired c) = { r with trigFired := { count := up r.trigFired.count, members := m } } ∧
          ∀ j, inSet m j = (inSet r.trigFired.members j || decide (j = c.val))) ∧
        (∀ c, ∃ m, r.file (.trigIgnored c) = { r with trigIgnored := { count := up r.trigIgnored.count, members := m } } ∧
          ∀ j, inSet m j = (inSet r.trigIgnored.members j || decide (j = c.val))) ∧
        (∀ c, ∃ m, r.file (.burstEnd c false) =
            { r with burstEnd := { r.burstEnd with count := up r.burstEnd.count, complete := m } } ∧
          ∀ j, inSet m j = (inSet r.burstEnd.complete j || decide (j = c.val))) ∧
        (∀ c, ∃ m, r.file (.burstEnd c true) =
            { r with burstEnd := { r.burstEnd with count := up r.burstEnd.count, cut := m } } ∧
          ∀ j, inSet m j = (inSet r.burstEnd.cut j || decide (j = c.val))) ∧
        (∀ e, ∃ m, r.file (.cmpHit e) = { r with cmpHit := { count := up r.cmpHit.count, members := m } } ∧
          ∀ j, inSet m j = (inSet r.cmpHit.members j || decide (j = e.val))) ∧
        (∀ n, ∃ m, r.file (.axisFault n) = { r with axisFault := { count := up r.axisFault.count, members := m } } ∧
          ∀ j, inSet m j = (inSet r.axisFault.members j || decide (j = n.val))) ∧
        ∀ k, ∃ m, r.file (.claimLost k) = { r with claimLost := { count := up r.claimLost.count, members := m } } ∧
          ∀ j, inSet m j = (inSet r.claimLost.members j || decide (j = k.index.val))

/-- A tick takes what the tick before still holds, then advances the count by one and every countdown by one (R9, R45,
R54, R71, R89, R108, R116, R118, R122, R126, R135, R171). Rests in part on the choices of the model in log entries 2, 3,
10, 11, 14, 27, 34. -/
def Obligations.TickTakesWhatIsLeftAndCounts : Prop :=
  ∀ s : State, ∃ u t, exec .tickCountAdvance s = .next t ∧
    let low := (u.mark.recognizer = .ready ∧ u.mark.lowRun ≠ 0) ∨ (u.mark.recognizer = .held ∧ u.mark.highRun = 0)
    (let logged := fun v : State => v.underway.foldl (fun w c => (w.handOver c).1) { v with underway := [] }
      let sampled := allAxes.foldl (fun v n =>
        let w := if (v.axis n).sampledAB then v else v.sampleAB n [] []
        if (w.axis n).sampledZ then w else w.sampleZ n []) s.takeMarkPulseEnd
      let lines := allLines.foldl (fun v l => if (v.trigLine l).sampled then v else v.sampleTrigLine l []) sampled
      let ended := allGates.foldl State.takeGatePulseEnd (allChannels.foldl State.takeBurstStep lines)
      let served := (allPorts.foldl State.takeExpiry (logged ended)).takeNextRequest
      let last := (allPorts.foldl (fun v p => if v.expiryDue p then v.expire p else v) served).takeNextRequest
      u = logged (if last.mark.sampled = .notYet then last.sampleMark [] else last) ∧
        (last.mark.sampled = .notYet → (low ↔ last.mark.drive = .driving ∨ last.mark.outside = .low))) ∧
    (∀ v : State,
      let leaving := fun w : State => ({ first := [], later := w.underway.length } : LogOrder)
      exec .markPulseEnd v = .next v.takeMarkPulseEnd ∧
      (∀ n, (v.axis n).sampledAB = false →
        exec (.axisLevelChange n (.ab (v.axis n).a.raw (v.axis n).b.raw [] { events := [], log := leaving (v.sampleAB n [] []) })) v =
          .next (v.sampleAB n [] [])) ∧
      (∀ n, (v.axis n).sampledZ = false →
        exec (.axisLevelChange n (.z (v.axis n).z.raw { events := [], log := leaving (v.sampleZ n []) })) v = .next (v.sampleZ n [])) ∧
      (∀ l, (v.trigLine l).sampled = false →
        exec (.trigLevelChange l (v.trigLine l).line.raw { events := [], log := leaving (v.sampleTrigLine l []) }) v =
          .next (v.sampleTrigLine l [])) ∧
      (∀ c, exec (.burstStep { channel := c, log := leaving (v.takeBurstStep c) }) v = .next (v.takeBurstStep c)) ∧
      (∀ g, exec (.gatePulseEnd g) v = .next (v.takeGatePulseEnd g)) ∧
      (∀ p, exec (.sessionExpiry p) v = .next (v.takeExpiry p)) ∧
      (v.nextRequest = none → v.takeNextRequest = v) ∧
      (∀ c p f, c.wellFormed = true → requestOf c = some (p, f) → v.nextRequest = some (p, f) →
        exec c v = .next v.takeNextRequest) ∧
      (v.mark.sample.2 = false → v.sampleMark [] = { v with mark := v.mark.sample.1 }) ∧
      (v.mark.sample.2 = true → v.mark.sampled = .notYet →
        v.mark.outside = .low ∨ (v.mark.endDue = false ∧ v.resetForced = false) →
        exec (.recognisedEdge [] (leaving (v.sampleMark []))) v = .next (v.sampleMark []))) ∧
    u.nothingLeft ∧ (s.nothingLeft → u = s) ∧
    t.time = { u.time with tick := u.time.tick + 1 } ∧
    t.mark =
      (if u.mark.drive = .driving then
        if 1 < u.mark.remaining then { u.mark with remaining := u.mark.remaining - 1, sampled := .notYet }
        else { u.mark with endDue := true, sampled := .notYet }
      else { u.mark with sampled := .notYet }) ∧
    (∀ n, t.axis n = { u.axis n with sampleFilter := (u.axis n).filter, sampledAB := false, sampledZ := false }) ∧
    (∀ l, t.trigLine l = { u.trigLine l with sampleFilter := (u.trigLine l).filter, sampled := false }) ∧
    (∀ c, t.channel c =
      if (u.channel c).state = .bursting then
        if 1 < (u.channel c).countdown then { u.channel c with countdown := (u.channel c).countdown - 1 }
        else { u.channel c with stepDue := true }
      else u.channel c) ∧
    (∀ g, t.gate g =
      if (u.gate g).remaining = 0 then u.gate g
      else if 1 < (u.gate g).remaining then { u.gate g with remaining := (u.gate g).remaining - 1 }
      else { u.gate g with endDue := true }) ∧
    (∀ p, t.session p =
      (u.session p).map (fun ses => if ses.idleLimit = 0 then ses else { ses with elapsed := ses.elapsed + 1 })) ∧
    (let settled := fun r : Response =>
        if r.levelOpen then
          { r with payload := r.payload.set (r.payload.length - 2) (if low then 0 else 1), levelOpen := false }
        else r
      ∀ p, t.port p =
        { u.port p with
          requests := (u.port p).requests.map (fun w => { w with joinedNow := false })
          responses := (u.port p).responses.map settled
          receive :=
            match (u.port p).receive with
            | .inTransaction tr =>
              .inTransaction { tr with chosen := tr.chosen.map settled, gone := tr.gone.map (fun g => (settled g.1, g.2)) }
            | other => other }) ∧
    t.executor = { u.executor with took := false } ∧ t.log = u.log ∧ t.entries = u.entries ∧ t.claims = u.claims ∧
    t.underway = [] ∧ t.discards = u.discards ∧ t.pending = s.pending
end

