-- ==== Sys2Proof/Laws/Lists.lean ====
section
/-! SUPPORT. Lists and folds: what a fold keeps, the numbers of each kind, the order of a happening's hand-overs, bytes of numbers. -/

namespace Sys2Proof.Machine

/-! ### Folds -/

/-- A relation that every step of a fold keeps holds between its start and its end. -/
theorem foldl_reaches {σ α : Type} (R : σ → σ → Prop) (refl : ∀ s, R s s) (trans : ∀ s t u, R s t → R t u → R s u)
    (f : σ → α → σ) (h : ∀ t x, R t (f t x)) (l : List α) (s : σ) : R s (l.foldl f s) := by
  induction l generalizing s with
  | nil => exact refl s
  | cons x l ih => exact trans _ _ _ (h s x) (ih (f s x))

/-- What every step of a fold leaves as it is, the fold leaves as it is. -/
theorem foldl_keeps {σ α β : Type} (get : σ → β) (f : σ → α → σ) (h : ∀ t x, get (f t x) = get t) (l : List α) (s : σ) :
    get (l.foldl f s) = get s :=
  foldl_reaches (fun s t => get t = get s) (fun _ => rfl) (fun _ _ _ a b => b.trans a) f h l s

/-- A property that every step of a fold keeps holds at its end. -/
theorem foldl_preserves {σ α : Type} (P : σ → Prop) (f : σ → α → σ) (h : ∀ t x, P t → P (f t x)) (l : List α) (s : σ)
    (hs : P s) : P (l.foldl f s) :=
  foldl_reaches (fun s t => P s → P t) (fun _ => id) (fun _ _ _ a b c => b (a c)) f h l s hs

/-! ### The numbers of each kind -/

@[simp] theorem mem_allPorts (p : PortId) : p ∈ allPorts := by revert p; decide
@[simp] theorem mem_allAxes (n : AxisId) : n ∈ allAxes := by revert n; decide
@[simp] theorem mem_allLines (l : LineId) : l ∈ allLines := by revert l; decide
@[simp] theorem mem_allChannels (c : ChannelId) : c ∈ allChannels := by revert c; decide
@[simp] theorem mem_allGates (g : GateId) : g ∈ allGates := by revert g; decide
@[simp] theorem mem_allEntries (e : EntryId) : e ∈ allEntries := by revert e; decide

theorem nodup_allPorts : allPorts.Nodup := by decide
theorem nodup_allAxes : allAxes.Nodup := by decide
theorem nodup_allLines : allLines.Nodup := by decide
theorem nodup_allChannels : allChannels.Nodup := by decide
theorem nodup_allGates : allGates.Nodup := by decide
theorem nodup_allEntries : allEntries.Nodup := by decide

@[simp] theorem mem_allResources (r : Resource) : r ∈ allResources := by cases r <;> simp [allResources]

@[simp] theorem mem_allKinds (k : EventKind) : k ∈ allKinds := by cases k <;> decide

theorem nodup_allResources : allResources.Nodup := by decide

/-! ### The order of the hand-overs (log entry 3) -/

/-- Preferring some members only changes the order. -/
theorem preferred_perm {α : Type} [DecidableEq α] (first all : List α) : (preferred first all).Perm all := by
  induction first generalizing all with
  | nil => exact List.Perm.refl _
  | cons x first ih =>
    unfold preferred
    split
    · next h => exact ((ih _).cons x).trans (List.perm_cons_erase h).symm
    · exact ih all

@[simp] theorem mem_preferred {α : Type} [DecidableEq α] (first all : List α) (x : α) :
    x ∈ preferred first all ↔ x ∈ all := (preferred_perm first all).mem_iff

theorem nodup_preferred {α : Type} [DecidableEq α] (first : List α) {all : List α} (h : all.Nodup) :
    (preferred first all).Nodup := (preferred_perm first all).nodup_iff.mpr h

/-- The named members stand first, in the order they are named, and the others after them. -/
theorem preferred_append {α : Type} [DecidableEq α] (first all : List α) (hf : first.Nodup) (ha : all.Nodup)
    (hs : ∀ x ∈ first, x ∈ all) : ∃ rest, preferred first all = first ++ rest ∧ ∀ x ∈ rest, x ∉ first := by
  induction first generalizing all with
  | nil => exact ⟨all, rfl, fun _ _ => List.not_mem_nil⟩
  | cons x first ih =>
    obtain ⟨hx, hf⟩ := List.nodup_cons.mp hf
    obtain ⟨rest, he, hr⟩ := ih (all.erase x) hf (ha.erase x)
      (fun y hy => (List.mem_erase_of_ne (by rintro rfl; exact hx hy)).mpr (hs y (List.mem_cons_of_mem x hy)))
    refine ⟨rest, ?_, fun y hy hm => ?_⟩
    · rw [preferred, if_pos (hs x List.mem_cons_self), he]
      rfl
    · rcases List.mem_cons.mp hm with e | hm
      · have hmem : y ∈ preferred first (all.erase x) := he ▸ List.mem_append_right first hy
        exact ((List.Nodup.mem_erase_iff ha).mp ((mem_preferred first _ y).mp hmem)).1 e
      · exact hr y hy hm

/-- What a happening reaches is taken in the order that names exactly these members. -/
theorem filter_preferred {α : Type} [DecidableEq α] {first all : List α} (hf : first.Nodup) (ha : all.Nodup) (P : α → Bool)
    (h : ∀ x, x ∈ first ↔ x ∈ all ∧ P x = true) : (preferred first all).filter P = first := by
  obtain ⟨rest, he, hr⟩ := preferred_append first all hf ha (fun x hx => ((h x).mp hx).1)
  have hall : ∀ x ∈ rest, x ∈ all := fun x hx => (mem_preferred first all x).mp (he ▸ List.mem_append_right first hx)
  rw [he, List.filter_append, List.filter_eq_self.mpr (fun x hx => ((h x).mp hx).2),
    List.filter_eq_nil_iff.mpr (fun x hx hp => hr x hx ((h x).mpr ⟨hall x hx, hp⟩)), List.append_nil]

/-! ### Bytes of numbers (R177) -/

@[simp] theorem length_bytesOfNat (n v : Nat) : (bytesOfNat n v).length = n := by
  induction n generalizing v with
  | zero => rfl
  | succ n ih => simp [bytesOfNat, ih]

@[simp] theorem natOfBytes_append_single (l : List Byte) (b : Byte) :
    natOfBytes (l ++ [b]) = natOfBytes l * 256 + b.toNat := by simp [natOfBytes, List.foldl_append]

/-- The bytes of a number spell it, modulo what they can hold. -/
theorem natOfBytes_bytesOfNat (n v : Nat) : natOfBytes (bytesOfNat n v) = v % 256 ^ n := by
  induction n generalizing v with
  | zero => simp [bytesOfNat, natOfBytes, Nat.mod_one]
  | succ n ih =>
    rw [bytesOfNat, natOfBytes_append_single, ih, pow_succ', Nat.mod_mul, BitVec.toNat_ofNat]
    omega

/-- What bytes spell is below what they can hold. -/
theorem natOfBytes_lt (l : List Byte) : natOfBytes l < 256 ^ l.length := by
  induction l using List.reverseRecOn with
  | nil => simp [natOfBytes]
  | append_singleton l b ih =>
    have hb : b.toNat < 256 := b.isLt
    rw [natOfBytes_append_single, List.length_append, List.length_singleton, pow_succ]
    omega

/-- A counter that holds at its limit stays at or below it. -/
theorem saturate_le {limit v : Nat} (h : v ≤ limit) : saturate limit v ≤ limit := by
  unfold saturate; split <;> omega

end Sys2Proof.Machine
end

