-- ==== Sys2Proof/Laws/State.lean ====
section
/-! SUPPORT. The small lemmas of State: banks, every field under every update, every accessor under every update. -/

namespace Sys2Proof.Machine

/-! ### Banks -/

@[simp] theorem Bank.read_write_same {α : Type} {n : Nat} (v : Bank α n) (i : Fin n) (x : α) :
    Bank.read (Bank.write v i x) i = x := by simp [Bank.read, Bank.write]

theorem Bank.read_write_ne {α : Type} {n : Nat} (v : Bank α n) {i j : Fin n} (x : α) (h : j ≠ i) :
    Bank.read (Bank.write v i x) j = Bank.read v j := by
  simp [Bank.read, Bank.write, Fin.val_ne_of_ne (Ne.symm h)]

theorem Bank.read_write {α : Type} {n : Nat} (v : Bank α n) (i j : Fin n) (x : α) :
    Bank.read (Bank.write v i x) j = if j = i then x else Bank.read v j := by
  by_cases h : j = i
  · subst h; simp
  · simp [h, Bank.read_write_ne]

@[simp] theorem Bank.read_mapAll {α : Type} {n : Nat} (v : Bank α n) (f : α → α) (i : Fin n) :
    Bank.read (Bank.mapAll v f) i = f (Bank.read v i) := by simp [Bank.read, Bank.mapAll]

@[simp] theorem Bank.read_replicate {α : Type} {n : Nat} (x : α) (i : Fin n) :
    Bank.read (Vector.replicate n x) i = x := by simp [Bank.read]

/-- Banks that read alike everywhere are equal. -/
theorem Bank.ext_read {α : Type} {n : Nat} (v w : Bank α n) (h : ∀ i, Bank.read v i = Bank.read w i) : v = w :=
  Vector.ext (fun i hi => h ⟨i, hi⟩)

@[simp] theorem Bank.write_read {α : Type} {n : Nat} (v : Bank α n) (i : Fin n) : Bank.write v i (Bank.read v i) = v := by
  refine Bank.ext_read _ _ (fun j => ?_)
  by_cases h : j = i
  · subst h; simp
  · simp [h, Bank.read_write_ne]

@[simp] theorem Bank.write_write {α : Type} {n : Nat} (v : Bank α n) (i : Fin n) (x y : α) :
    Bank.write (Bank.write v i x) i y = Bank.write v i y := by
  refine Bank.ext_read _ _ (fun j => ?_)
  by_cases h : j = i
  · subst h; simp
  · simp [h, Bank.read_write_ne]

/-- The places of two resources in the claims table differ when the resources do (R148). -/
theorem Resource.index_injective : Function.Injective Resource.index := by
  intro a b h
  cases a <;> cases b <;> simp only [Resource.index, Fin.mk.injEq] at h <;>
    first | rfl | (congr 1; apply Fin.ext; omega) | omega

/-! ### Fields under updates -/

@[simp] theorem State.setTime_time (s : State) (t : Timebase) : (s.setTime t).time = t := rfl
@[simp] theorem State.setTime_mark (s : State) (t : Timebase) : (s.setTime t).mark = s.mark := rfl
@[simp] theorem State.setTime_axes (s : State) (t : Timebase) : (s.setTime t).axes = s.axes := rfl
@[simp] theorem State.setTime_lines (s : State) (t : Timebase) : (s.setTime t).lines = s.lines := rfl
@[simp] theorem State.setTime_channels (s : State) (t : Timebase) : (s.setTime t).channels = s.channels := rfl
@[simp] theorem State.setTime_entries (s : State) (t : Timebase) : (s.setTime t).entries = s.entries := rfl
@[simp] theorem State.setTime_gates (s : State) (t : Timebase) : (s.setTime t).gates = s.gates := rfl
@[simp] theorem State.setTime_log (s : State) (t : Timebase) : (s.setTime t).log = s.log := rfl
@[simp] theorem State.setTime_underway (s : State) (t : Timebase) : (s.setTime t).underway = s.underway := rfl
@[simp] theorem State.setTime_sessions (s : State) (t : Timebase) : (s.setTime t).sessions = s.sessions := rfl
@[simp] theorem State.setTime_claims (s : State) (t : Timebase) : (s.setTime t).claims = s.claims := rfl
@[simp] theorem State.setTime_ports (s : State) (t : Timebase) : (s.setTime t).ports = s.ports := rfl
@[simp] theorem State.setTime_executor (s : State) (t : Timebase) : (s.setTime t).executor = s.executor := rfl
@[simp] theorem State.setTime_discards (s : State) (t : Timebase) : (s.setTime t).discards = s.discards := rfl
@[simp] theorem State.setTime_pending (s : State) (t : Timebase) : (s.setTime t).pending = s.pending := rfl

@[simp] theorem State.setMark_time (s : State) (m : MarkUnit) : (s.setMark m).time = s.time := rfl
@[simp] theorem State.setMark_mark (s : State) (m : MarkUnit) : (s.setMark m).mark = m := rfl
@[simp] theorem State.setMark_axes (s : State) (m : MarkUnit) : (s.setMark m).axes = s.axes := rfl
@[simp] theorem State.setMark_lines (s : State) (m : MarkUnit) : (s.setMark m).lines = s.lines := rfl
@[simp] theorem State.setMark_channels (s : State) (m : MarkUnit) : (s.setMark m).channels = s.channels := rfl
@[simp] theorem State.setMark_entries (s : State) (m : MarkUnit) : (s.setMark m).entries = s.entries := rfl
@[simp] theorem State.setMark_gates (s : State) (m : MarkUnit) : (s.setMark m).gates = s.gates := rfl
@[simp] theorem State.setMark_log (s : State) (m : MarkUnit) : (s.setMark m).log = s.log := rfl
@[simp] theorem State.setMark_underway (s : State) (m : MarkUnit) : (s.setMark m).underway = s.underway := rfl
@[simp] theorem State.setMark_sessions (s : State) (m : MarkUnit) : (s.setMark m).sessions = s.sessions := rfl
@[simp] theorem State.setMark_claims (s : State) (m : MarkUnit) : (s.setMark m).claims = s.claims := rfl
@[simp] theorem State.setMark_ports (s : State) (m : MarkUnit) : (s.setMark m).ports = s.ports := rfl
@[simp] theorem State.setMark_executor (s : State) (m : MarkUnit) : (s.setMark m).executor = s.executor := rfl
@[simp] theorem State.setMark_discards (s : State) (m : MarkUnit) : (s.setMark m).discards = s.discards := rfl
@[simp] theorem State.setMark_pending (s : State) (m : MarkUnit) : (s.setMark m).pending = s.pending := rfl

@[simp] theorem State.setAxis_time (s : State) (n : AxisId) (x : Axis) : (s.setAxis n x).time = s.time := rfl
@[simp] theorem State.setAxis_mark (s : State) (n : AxisId) (x : Axis) : (s.setAxis n x).mark = s.mark := rfl
@[simp] theorem State.setAxis_axes (s : State) (n : AxisId) (x : Axis) : (s.setAxis n x).axes = Bank.write s.axes n x := rfl
@[simp] theorem State.setAxis_lines (s : State) (n : AxisId) (x : Axis) : (s.setAxis n x).lines = s.lines := rfl
@[simp] theorem State.setAxis_channels (s : State) (n : AxisId) (x : Axis) : (s.setAxis n x).channels = s.channels := rfl
@[simp] theorem State.setAxis_entries (s : State) (n : AxisId) (x : Axis) : (s.setAxis n x).entries = s.entries := rfl
@[simp] theorem State.setAxis_gates (s : State) (n : AxisId) (x : Axis) : (s.setAxis n x).gates = s.gates := rfl
@[simp] theorem State.setAxis_log (s : State) (n : AxisId) (x : Axis) : (s.setAxis n x).log = s.log := rfl
@[simp] theorem State.setAxis_underway (s : State) (n : AxisId) (x : Axis) : (s.setAxis n x).underway = s.underway := rfl
@[simp] theorem State.setAxis_sessions (s : State) (n : AxisId) (x : Axis) : (s.setAxis n x).sessions = s.sessions := rfl
@[simp] theorem State.setAxis_claims (s : State) (n : AxisId) (x : Axis) : (s.setAxis n x).claims = s.claims := rfl
@[simp] theorem State.setAxis_ports (s : State) (n : AxisId) (x : Axis) : (s.setAxis n x).ports = s.ports := rfl
@[simp] theorem State.setAxis_executor (s : State) (n : AxisId) (x : Axis) : (s.setAxis n x).executor = s.executor := rfl
@[simp] theorem State.setAxis_discards (s : State) (n : AxisId) (x : Axis) : (s.setAxis n x).discards = s.discards := rfl
@[simp] theorem State.setAxis_pending (s : State) (n : AxisId) (x : Axis) : (s.setAxis n x).pending = s.pending := rfl

@[simp] theorem State.setLine_time (s : State) (l : LineId) (x : TrigLine) : (s.setLine l x).time = s.time := rfl
@[simp] theorem State.setLine_mark (s : State) (l : LineId) (x : TrigLine) : (s.setLine l x).mark = s.mark := rfl
@[simp] theorem State.setLine_axes (s : State) (l : LineId) (x : TrigLine) : (s.setLine l x).axes = s.axes := rfl
@[simp] theorem State.setLine_lines (s : State) (l : LineId) (x : TrigLine) : (s.setLine l x).lines = Bank.write s.lines l x := rfl
@[simp] theorem State.setLine_channels (s : State) (l : LineId) (x : TrigLine) : (s.setLine l x).channels = s.channels := rfl
@[simp] theorem State.setLine_entries (s : State) (l : LineId) (x : TrigLine) : (s.setLine l x).entries = s.entries := rfl
@[simp] theorem State.setLine_gates (s : State) (l : LineId) (x : TrigLine) : (s.setLine l x).gates = s.gates := rfl
@[simp] theorem State.setLine_log (s : State) (l : LineId) (x : TrigLine) : (s.setLine l x).log = s.log := rfl
@[simp] theorem State.setLine_underway (s : State) (l : LineId) (x : TrigLine) : (s.setLine l x).underway = s.underway := rfl
@[simp] theorem State.setLine_sessions (s : State) (l : LineId) (x : TrigLine) : (s.setLine l x).sessions = s.sessions := rfl
@[simp] theorem State.setLine_claims (s : State) (l : LineId) (x : TrigLine) : (s.setLine l x).claims = s.claims := rfl
@[simp] theorem State.setLine_ports (s : State) (l : LineId) (x : TrigLine) : (s.setLine l x).ports = s.ports := rfl
@[simp] theorem State.setLine_executor (s : State) (l : LineId) (x : TrigLine) : (s.setLine l x).executor = s.executor := rfl
@[simp] theorem State.setLine_discards (s : State) (l : LineId) (x : TrigLine) : (s.setLine l x).discards = s.discards := rfl
@[simp] theorem State.setLine_pending (s : State) (l : LineId) (x : TrigLine) : (s.setLine l x).pending = s.pending := rfl

@[simp] theorem State.setChannel_time (s : State) (c : ChannelId) (x : Channel) : (s.setChannel c x).time = s.time := rfl
@[simp] theorem State.setChannel_mark (s : State) (c : ChannelId) (x : Channel) : (s.setChannel c x).mark = s.mark := rfl
@[simp] theorem State.setChannel_axes (s : State) (c : ChannelId) (x : Channel) : (s.setChannel c x).axes = s.axes := rfl
@[simp] theorem State.setChannel_lines (s : State) (c : ChannelId) (x : Channel) : (s.setChannel c x).lines = s.lines := rfl
@[simp] theorem State.setChannel_channels (s : State) (c : ChannelId) (x : Channel) : (s.setChannel c x).channels = Bank.write s.channels c x := rfl
@[simp] theorem State.setChannel_entries (s : State) (c : ChannelId) (x : Channel) : (s.setChannel c x).entries = s.entries := rfl
@[simp] theorem State.setChannel_gates (s : State) (c : ChannelId) (x : Channel) : (s.setChannel c x).gates = s.gates := rfl
@[simp] theorem State.setChannel_log (s : State) (c : ChannelId) (x : Channel) : (s.setChannel c x).log = s.log := rfl
@[simp] theorem State.setChannel_underway (s : State) (c : ChannelId) (x : Channel) : (s.setChannel c x).underway = s.underway := rfl
@[simp] theorem State.setChannel_sessions (s : State) (c : ChannelId) (x : Channel) : (s.setChannel c x).sessions = s.sessions := rfl
@[simp] theorem State.setChannel_claims (s : State) (c : ChannelId) (x : Channel) : (s.setChannel c x).claims = s.claims := rfl
@[simp] theorem State.setChannel_ports (s : State) (c : ChannelId) (x : Channel) : (s.setChannel c x).ports = s.ports := rfl
@[simp] theorem State.setChannel_executor (s : State) (c : ChannelId) (x : Channel) : (s.setChannel c x).executor = s.executor := rfl
@[simp] theorem State.setChannel_discards (s : State) (c : ChannelId) (x : Channel) : (s.setChannel c x).discards = s.discards := rfl
@[simp] theorem State.setChannel_pending (s : State) (c : ChannelId) (x : Channel) : (s.setChannel c x).pending = s.pending := rfl

@[simp] theorem State.setEntry_time (s : State) (e : EntryId) (x : Entry) : (s.setEntry e x).time = s.time := rfl
@[simp] theorem State.setEntry_mark (s : State) (e : EntryId) (x : Entry) : (s.setEntry e x).mark = s.mark := rfl
@[simp] theorem State.setEntry_axes (s : State) (e : EntryId) (x : Entry) : (s.setEntry e x).axes = s.axes := rfl
@[simp] theorem State.setEntry_lines (s : State) (e : EntryId) (x : Entry) : (s.setEntry e x).lines = s.lines := rfl
@[simp] theorem State.setEntry_channels (s : State) (e : EntryId) (x : Entry) : (s.setEntry e x).channels = s.channels := rfl
@[simp] theorem State.setEntry_entries (s : State) (e : EntryId) (x : Entry) : (s.setEntry e x).entries = Bank.write s.entries e x := rfl
@[simp] theorem State.setEntry_gates (s : State) (e : EntryId) (x : Entry) : (s.setEntry e x).gates = s.gates := rfl
@[simp] theorem State.setEntry_log (s : State) (e : EntryId) (x : Entry) : (s.setEntry e x).log = s.log := rfl
@[simp] theorem State.setEntry_underway (s : State) (e : EntryId) (x : Entry) : (s.setEntry e x).underway = s.underway := rfl
@[simp] theorem State.setEntry_sessions (s : State) (e : EntryId) (x : Entry) : (s.setEntry e x).sessions = s.sessions := rfl
@[simp] theorem State.setEntry_claims (s : State) (e : EntryId) (x : Entry) : (s.setEntry e x).claims = s.claims := rfl
@[simp] theorem State.setEntry_ports (s : State) (e : EntryId) (x : Entry) : (s.setEntry e x).ports = s.ports := rfl
@[simp] theorem State.setEntry_executor (s : State) (e : EntryId) (x : Entry) : (s.setEntry e x).executor = s.executor := rfl
@[simp] theorem State.setEntry_discards (s : State) (e : EntryId) (x : Entry) : (s.setEntry e x).discards = s.discards := rfl
@[simp] theorem State.setEntry_pending (s : State) (e : EntryId) (x : Entry) : (s.setEntry e x).pending = s.pending := rfl

@[simp] theorem State.setGate_time (s : State) (g : GateId) (x : Gate) : (s.setGate g x).time = s.time := rfl
@[simp] theorem State.setGate_mark (s : State) (g : GateId) (x : Gate) : (s.setGate g x).mark = s.mark := rfl
@[simp] theorem State.setGate_axes (s : State) (g : GateId) (x : Gate) : (s.setGate g x).axes = s.axes := rfl
@[simp] theorem State.setGate_lines (s : State) (g : GateId) (x : Gate) : (s.setGate g x).lines = s.lines := rfl
@[simp] theorem State.setGate_channels (s : State) (g : GateId) (x : Gate) : (s.setGate g x).channels = s.channels := rfl
@[simp] theorem State.setGate_entries (s : State) (g : GateId) (x : Gate) : (s.setGate g x).entries = s.entries := rfl
@[simp] theorem State.setGate_gates (s : State) (g : GateId) (x : Gate) : (s.setGate g x).gates = Bank.write s.gates g x := rfl
@[simp] theorem State.setGate_log (s : State) (g : GateId) (x : Gate) : (s.setGate g x).log = s.log := rfl
@[simp] theorem State.setGate_underway (s : State) (g : GateId) (x : Gate) : (s.setGate g x).underway = s.underway := rfl
@[simp] theorem State.setGate_sessions (s : State) (g : GateId) (x : Gate) : (s.setGate g x).sessions = s.sessions := rfl
@[simp] theorem State.setGate_claims (s : State) (g : GateId) (x : Gate) : (s.setGate g x).claims = s.claims := rfl
@[simp] theorem State.setGate_ports (s : State) (g : GateId) (x : Gate) : (s.setGate g x).ports = s.ports := rfl
@[simp] theorem State.setGate_executor (s : State) (g : GateId) (x : Gate) : (s.setGate g x).executor = s.executor := rfl
@[simp] theorem State.setGate_discards (s : State) (g : GateId) (x : Gate) : (s.setGate g x).discards = s.discards := rfl
@[simp] theorem State.setGate_pending (s : State) (g : GateId) (x : Gate) : (s.setGate g x).pending = s.pending := rfl

@[simp] theorem State.setLog_time (s : State) (l : CaptureLog) : (s.setLog l).time = s.time := rfl
@[simp] theorem State.setLog_mark (s : State) (l : CaptureLog) : (s.setLog l).mark = s.mark := rfl
@[simp] theorem State.setLog_axes (s : State) (l : CaptureLog) : (s.setLog l).axes = s.axes := rfl
@[simp] theorem State.setLog_lines (s : State) (l : CaptureLog) : (s.setLog l).lines = s.lines := rfl
@[simp] theorem State.setLog_channels (s : State) (l : CaptureLog) : (s.setLog l).channels = s.channels := rfl
@[simp] theorem State.setLog_entries (s : State) (l : CaptureLog) : (s.setLog l).entries = s.entries := rfl
@[simp] theorem State.setLog_gates (s : State) (l : CaptureLog) : (s.setLog l).gates = s.gates := rfl
@[simp] theorem State.setLog_log (s : State) (l : CaptureLog) : (s.setLog l).log = l := rfl
@[simp] theorem State.setLog_underway (s : State) (l : CaptureLog) : (s.setLog l).underway = s.underway := rfl
@[simp] theorem State.setLog_sessions (s : State) (l : CaptureLog) : (s.setLog l).sessions = s.sessions := rfl
@[simp] theorem State.setLog_claims (s : State) (l : CaptureLog) : (s.setLog l).claims = s.claims := rfl
@[simp] theorem State.setLog_ports (s : State) (l : CaptureLog) : (s.setLog l).ports = s.ports := rfl
@[simp] theorem State.setLog_executor (s : State) (l : CaptureLog) : (s.setLog l).executor = s.executor := rfl
@[simp] theorem State.setLog_discards (s : State) (l : CaptureLog) : (s.setLog l).discards = s.discards := rfl
@[simp] theorem State.setLog_pending (s : State) (l : CaptureLog) : (s.setLog l).pending = s.pending := rfl

@[simp] theorem State.setSession_time (s : State) (p : PortId) (x : Option Session) : (s.setSession p x).time = s.time := rfl
@[simp] theorem State.setSession_mark (s : State) (p : PortId) (x : Option Session) : (s.setSession p x).mark = s.mark := rfl
@[simp] theorem State.setSession_axes (s : State) (p : PortId) (x : Option Session) : (s.setSession p x).axes = s.axes := rfl
@[simp] theorem State.setSession_lines (s : State) (p : PortId) (x : Option Session) : (s.setSession p x).lines = s.lines := rfl
@[simp] theorem State.setSession_channels (s : State) (p : PortId) (x : Option Session) : (s.setSession p x).channels = s.channels := rfl
@[simp] theorem State.setSession_entries (s : State) (p : PortId) (x : Option Session) : (s.setSession p x).entries = s.entries := rfl
@[simp] theorem State.setSession_gates (s : State) (p : PortId) (x : Option Session) : (s.setSession p x).gates = s.gates := rfl
@[simp] theorem State.setSession_log (s : State) (p : PortId) (x : Option Session) : (s.setSession p x).log = s.log := rfl
@[simp] theorem State.setSession_underway (s : State) (p : PortId) (x : Option Session) : (s.setSession p x).underway = s.underway := rfl
@[simp] theorem State.setSession_sessions (s : State) (p : PortId) (x : Option Session) : (s.setSession p x).sessions = Bank.write s.sessions p x := rfl
@[simp] theorem State.setSession_claims (s : State) (p : PortId) (x : Option Session) : (s.setSession p x).claims = s.claims := rfl
@[simp] theorem State.setSession_ports (s : State) (p : PortId) (x : Option Session) : (s.setSession p x).ports = s.ports := rfl
@[simp] theorem State.setSession_executor (s : State) (p : PortId) (x : Option Session) : (s.setSession p x).executor = s.executor := rfl
@[simp] theorem State.setSession_discards (s : State) (p : PortId) (x : Option Session) : (s.setSession p x).discards = s.discards := rfl
@[simp] theorem State.setSession_pending (s : State) (p : PortId) (x : Option Session) : (s.setSession p x).pending = s.pending := rfl

@[simp] theorem State.setOwner_time (s : State) (r : Resource) (o : Option PortId) : (s.setOwner r o).time = s.time := rfl
@[simp] theorem State.setOwner_mark (s : State) (r : Resource) (o : Option PortId) : (s.setOwner r o).mark = s.mark := rfl
@[simp] theorem State.setOwner_axes (s : State) (r : Resource) (o : Option PortId) : (s.setOwner r o).axes = s.axes := rfl
@[simp] theorem State.setOwner_lines (s : State) (r : Resource) (o : Option PortId) : (s.setOwner r o).lines = s.lines := rfl
@[simp] theorem State.setOwner_channels (s : State) (r : Resource) (o : Option PortId) : (s.setOwner r o).channels = s.channels := rfl
@[simp] theorem State.setOwner_entries (s : State) (r : Resource) (o : Option PortId) : (s.setOwner r o).entries = s.entries := rfl
@[simp] theorem State.setOwner_gates (s : State) (r : Resource) (o : Option PortId) : (s.setOwner r o).gates = s.gates := rfl
@[simp] theorem State.setOwner_log (s : State) (r : Resource) (o : Option PortId) : (s.setOwner r o).log = s.log := rfl
@[simp] theorem State.setOwner_underway (s : State) (r : Resource) (o : Option PortId) : (s.setOwner r o).underway = s.underway := rfl
@[simp] theorem State.setOwner_sessions (s : State) (r : Resource) (o : Option PortId) : (s.setOwner r o).sessions = s.sessions := rfl
@[simp] theorem State.setOwner_claims (s : State) (r : Resource) (o : Option PortId) : (s.setOwner r o).claims = Bank.write s.claims r.index o := rfl
@[simp] theorem State.setOwner_ports (s : State) (r : Resource) (o : Option PortId) : (s.setOwner r o).ports = s.ports := rfl
@[simp] theorem State.setOwner_executor (s : State) (r : Resource) (o : Option PortId) : (s.setOwner r o).executor = s.executor := rfl
@[simp] theorem State.setOwner_discards (s : State) (r : Resource) (o : Option PortId) : (s.setOwner r o).discards = s.discards := rfl
@[simp] theorem State.setOwner_pending (s : State) (r : Resource) (o : Option PortId) : (s.setOwner r o).pending = s.pending := rfl

@[simp] theorem State.setPort_time (s : State) (p : PortId) (x : Port) : (s.setPort p x).time = s.time := rfl
@[simp] theorem State.setPort_mark (s : State) (p : PortId) (x : Port) : (s.setPort p x).mark = s.mark := rfl
@[simp] theorem State.setPort_axes (s : State) (p : PortId) (x : Port) : (s.setPort p x).axes = s.axes := rfl
@[simp] theorem State.setPort_lines (s : State) (p : PortId) (x : Port) : (s.setPort p x).lines = s.lines := rfl
@[simp] theorem State.setPort_channels (s : State) (p : PortId) (x : Port) : (s.setPort p x).channels = s.channels := rfl
@[simp] theorem State.setPort_entries (s : State) (p : PortId) (x : Port) : (s.setPort p x).entries = s.entries := rfl
@[simp] theorem State.setPort_gates (s : State) (p : PortId) (x : Port) : (s.setPort p x).gates = s.gates := rfl
@[simp] theorem State.setPort_log (s : State) (p : PortId) (x : Port) : (s.setPort p x).log = s.log := rfl
@[simp] theorem State.setPort_underway (s : State) (p : PortId) (x : Port) : (s.setPort p x).underway = s.underway := rfl
@[simp] theorem State.setPort_sessions (s : State) (p : PortId) (x : Port) : (s.setPort p x).sessions = s.sessions := rfl
@[simp] theorem State.setPort_claims (s : State) (p : PortId) (x : Port) : (s.setPort p x).claims = s.claims := rfl
@[simp] theorem State.setPort_ports (s : State) (p : PortId) (x : Port) : (s.setPort p x).ports = Bank.write s.ports p x := rfl
@[simp] theorem State.setPort_executor (s : State) (p : PortId) (x : Port) : (s.setPort p x).executor = s.executor := rfl
@[simp] theorem State.setPort_discards (s : State) (p : PortId) (x : Port) : (s.setPort p x).discards = s.discards := rfl
@[simp] theorem State.setPort_pending (s : State) (p : PortId) (x : Port) : (s.setPort p x).pending = s.pending := rfl

@[simp] theorem State.setExecutor_time (s : State) (e : Executor) : (s.setExecutor e).time = s.time := rfl
@[simp] theorem State.setExecutor_mark (s : State) (e : Executor) : (s.setExecutor e).mark = s.mark := rfl
@[simp] theorem State.setExecutor_axes (s : State) (e : Executor) : (s.setExecutor e).axes = s.axes := rfl
@[simp] theorem State.setExecutor_lines (s : State) (e : Executor) : (s.setExecutor e).lines = s.lines := rfl
@[simp] theorem State.setExecutor_channels (s : State) (e : Executor) : (s.setExecutor e).channels = s.channels := rfl
@[simp] theorem State.setExecutor_entries (s : State) (e : Executor) : (s.setExecutor e).entries = s.entries := rfl
@[simp] theorem State.setExecutor_gates (s : State) (e : Executor) : (s.setExecutor e).gates = s.gates := rfl
@[simp] theorem State.setExecutor_log (s : State) (e : Executor) : (s.setExecutor e).log = s.log := rfl
@[simp] theorem State.setExecutor_underway (s : State) (e : Executor) : (s.setExecutor e).underway = s.underway := rfl
@[simp] theorem State.setExecutor_sessions (s : State) (e : Executor) : (s.setExecutor e).sessions = s.sessions := rfl
@[simp] theorem State.setExecutor_claims (s : State) (e : Executor) : (s.setExecutor e).claims = s.claims := rfl
@[simp] theorem State.setExecutor_ports (s : State) (e : Executor) : (s.setExecutor e).ports = s.ports := rfl
@[simp] theorem State.setExecutor_executor (s : State) (e : Executor) : (s.setExecutor e).executor = e := rfl
@[simp] theorem State.setExecutor_discards (s : State) (e : Executor) : (s.setExecutor e).discards = s.discards := rfl
@[simp] theorem State.setExecutor_pending (s : State) (e : Executor) : (s.setExecutor e).pending = s.pending := rfl

@[simp] theorem State.request_time (s : State) (c : Capture) : (s.request c).time = s.time := rfl
@[simp] theorem State.request_mark (s : State) (c : Capture) : (s.request c).mark = s.mark := rfl
@[simp] theorem State.request_axes (s : State) (c : Capture) : (s.request c).axes = s.axes := rfl
@[simp] theorem State.request_lines (s : State) (c : Capture) : (s.request c).lines = s.lines := rfl
@[simp] theorem State.request_channels (s : State) (c : Capture) : (s.request c).channels = s.channels := rfl
@[simp] theorem State.request_entries (s : State) (c : Capture) : (s.request c).entries = s.entries := rfl
@[simp] theorem State.request_gates (s : State) (c : Capture) : (s.request c).gates = s.gates := rfl
@[simp] theorem State.request_log (s : State) (c : Capture) : (s.request c).log = s.log := rfl
@[simp] theorem State.request_underway (s : State) (c : Capture) : (s.request c).underway = s.underway ++ [c] := rfl
@[simp] theorem State.request_sessions (s : State) (c : Capture) : (s.request c).sessions = s.sessions := rfl
@[simp] theorem State.request_claims (s : State) (c : Capture) : (s.request c).claims = s.claims := rfl
@[simp] theorem State.request_ports (s : State) (c : Capture) : (s.request c).ports = s.ports := rfl
@[simp] theorem State.request_executor (s : State) (c : Capture) : (s.request c).executor = s.executor := rfl
@[simp] theorem State.request_discards (s : State) (c : Capture) : (s.request c).discards = s.discards := rfl
@[simp] theorem State.request_pending (s : State) (c : Capture) : (s.request c).pending = s.pending := rfl

/-! ### Accessors under updates of another unit -/

@[simp] theorem State.setTime_axis (s : State) (t : Timebase) (k : AxisId) : (s.setTime t).axis k = s.axis k := rfl
@[simp] theorem State.setMark_axis (s : State) (m : MarkUnit) (k : AxisId) : (s.setMark m).axis k = s.axis k := rfl
@[simp] theorem State.setLine_axis (s : State) (l : LineId) (x : TrigLine) (k : AxisId) : (s.setLine l x).axis k = s.axis k := rfl
@[simp] theorem State.setChannel_axis (s : State) (c : ChannelId) (x : Channel) (k : AxisId) : (s.setChannel c x).axis k = s.axis k := rfl
@[simp] theorem State.setEntry_axis (s : State) (e : EntryId) (x : Entry) (k : AxisId) : (s.setEntry e x).axis k = s.axis k := rfl
@[simp] theorem State.setGate_axis (s : State) (g : GateId) (x : Gate) (k : AxisId) : (s.setGate g x).axis k = s.axis k := rfl
@[simp] theorem State.setLog_axis (s : State) (l : CaptureLog) (k : AxisId) : (s.setLog l).axis k = s.axis k := rfl
@[simp] theorem State.setSession_axis (s : State) (p : PortId) (x : Option Session) (k : AxisId) : (s.setSession p x).axis k = s.axis k := rfl
@[simp] theorem State.setOwner_axis (s : State) (r : Resource) (o : Option PortId) (k : AxisId) : (s.setOwner r o).axis k = s.axis k := rfl
@[simp] theorem State.setPort_axis (s : State) (p : PortId) (x : Port) (k : AxisId) : (s.setPort p x).axis k = s.axis k := rfl
@[simp] theorem State.setExecutor_axis (s : State) (e : Executor) (k : AxisId) : (s.setExecutor e).axis k = s.axis k := rfl
@[simp] theorem State.request_axis (s : State) (c : Capture) (k : AxisId) : (s.request c).axis k = s.axis k := rfl

@[simp] theorem State.setTime_trigLine (s : State) (t : Timebase) (k : LineId) : (s.setTime t).trigLine k = s.trigLine k := rfl
@[simp] theorem State.setMark_trigLine (s : State) (m : MarkUnit) (k : LineId) : (s.setMark m).trigLine k = s.trigLine k := rfl
@[simp] theorem State.setAxis_trigLine (s : State) (n : AxisId) (x : Axis) (k : LineId) : (s.setAxis n x).trigLine k = s.trigLine k := rfl
@[simp] theorem State.setChannel_trigLine (s : State) (c : ChannelId) (x : Channel) (k : LineId) : (s.setChannel c x).trigLine k = s.trigLine k := rfl
@[simp] theorem State.setEntry_trigLine (s : State) (e : EntryId) (x : Entry) (k : LineId) : (s.setEntry e x).trigLine k = s.trigLine k := rfl
@[simp] theorem State.setGate_trigLine (s : State) (g : GateId) (x : Gate) (k : LineId) : (s.setGate g x).trigLine k = s.trigLine k := rfl
@[simp] theorem State.setLog_trigLine (s : State) (l : CaptureLog) (k : LineId) : (s.setLog l).trigLine k = s.trigLine k := rfl
@[simp] theorem State.setSession_trigLine (s : State) (p : PortId) (x : Option Session) (k : LineId) : (s.setSession p x).trigLine k = s.trigLine k := rfl
@[simp] theorem State.setOwner_trigLine (s : State) (r : Resource) (o : Option PortId) (k : LineId) : (s.setOwner r o).trigLine k = s.trigLine k := rfl
@[simp] theorem State.setPort_trigLine (s : State) (p : PortId) (x : Port) (k : LineId) : (s.setPort p x).trigLine k = s.trigLine k := rfl
@[simp] theorem State.setExecutor_trigLine (s : State) (e : Executor) (k : LineId) : (s.setExecutor e).trigLine k = s.trigLine k := rfl
@[simp] theorem State.request_trigLine (s : State) (c : Capture) (k : LineId) : (s.request c).trigLine k = s.trigLine k := rfl

@[simp] theorem State.setTime_channel (s : State) (t : Timebase) (k : ChannelId) : (s.setTime t).channel k = s.channel k := rfl
@[simp] theorem State.setMark_channel (s : State) (m : MarkUnit) (k : ChannelId) : (s.setMark m).channel k = s.channel k := rfl
@[simp] theorem State.setAxis_channel (s : State) (n : AxisId) (x : Axis) (k : ChannelId) : (s.setAxis n x).channel k = s.channel k := rfl
@[simp] theorem State.setLine_channel (s : State) (l : LineId) (x : TrigLine) (k : ChannelId) : (s.setLine l x).channel k = s.channel k := rfl
@[simp] theorem State.setEntry_channel (s : State) (e : EntryId) (x : Entry) (k : ChannelId) : (s.setEntry e x).channel k = s.channel k := rfl
@[simp] theorem State.setGate_channel (s : State) (g : GateId) (x : Gate) (k : ChannelId) : (s.setGate g x).channel k = s.channel k := rfl
@[simp] theorem State.setLog_channel (s : State) (l : CaptureLog) (k : ChannelId) : (s.setLog l).channel k = s.channel k := rfl
@[simp] theorem State.setSession_channel (s : State) (p : PortId) (x : Option Session) (k : ChannelId) : (s.setSession p x).channel k = s.channel k := rfl
@[simp] theorem State.setOwner_channel (s : State) (r : Resource) (o : Option PortId) (k : ChannelId) : (s.setOwner r o).channel k = s.channel k := rfl
@[simp] theorem State.setPort_channel (s : State) (p : PortId) (x : Port) (k : ChannelId) : (s.setPort p x).channel k = s.channel k := rfl
@[simp] theorem State.setExecutor_channel (s : State) (e : Executor) (k : ChannelId) : (s.setExecutor e).channel k = s.channel k := rfl
@[simp] theorem State.request_channel (s : State) (c : Capture) (k : ChannelId) : (s.request c).channel k = s.channel k := rfl

@[simp] theorem State.setTime_entry (s : State) (t : Timebase) (k : EntryId) : (s.setTime t).entry k = s.entry k := rfl
@[simp] theorem State.setMark_entry (s : State) (m : MarkUnit) (k : EntryId) : (s.setMark m).entry k = s.entry k := rfl
@[simp] theorem State.setAxis_entry (s : State) (n : AxisId) (x : Axis) (k : EntryId) : (s.setAxis n x).entry k = s.entry k := rfl
@[simp] theorem State.setLine_entry (s : State) (l : LineId) (x : TrigLine) (k : EntryId) : (s.setLine l x).entry k = s.entry k := rfl
@[simp] theorem State.setChannel_entry (s : State) (c : ChannelId) (x : Channel) (k : EntryId) : (s.setChannel c x).entry k = s.entry k := rfl
@[simp] theorem State.setGate_entry (s : State) (g : GateId) (x : Gate) (k : EntryId) : (s.setGate g x).entry k = s.entry k := rfl
@[simp] theorem State.setLog_entry (s : State) (l : CaptureLog) (k : EntryId) : (s.setLog l).entry k = s.entry k := rfl
@[simp] theorem State.setSession_entry (s : State) (p : PortId) (x : Option Session) (k : EntryId) : (s.setSession p x).entry k = s.entry k := rfl
@[simp] theorem State.setOwner_entry (s : State) (r : Resource) (o : Option PortId) (k : EntryId) : (s.setOwner r o).entry k = s.entry k := rfl
@[simp] theorem State.setPort_entry (s : State) (p : PortId) (x : Port) (k : EntryId) : (s.setPort p x).entry k = s.entry k := rfl
@[simp] theorem State.setExecutor_entry (s : State) (e : Executor) (k : EntryId) : (s.setExecutor e).entry k = s.entry k := rfl
@[simp] theorem State.request_entry (s : State) (c : Capture) (k : EntryId) : (s.request c).entry k = s.entry k := rfl

@[simp] theorem State.setTime_gate (s : State) (t : Timebase) (k : GateId) : (s.setTime t).gate k = s.gate k := rfl
@[simp] theorem State.setMark_gate (s : State) (m : MarkUnit) (k : GateId) : (s.setMark m).gate k = s.gate k := rfl
@[simp] theorem State.setAxis_gate (s : State) (n : AxisId) (x : Axis) (k : GateId) : (s.setAxis n x).gate k = s.gate k := rfl
@[simp] theorem State.setLine_gate (s : State) (l : LineId) (x : TrigLine) (k : GateId) : (s.setLine l x).gate k = s.gate k := rfl
@[simp] theorem State.setChannel_gate (s : State) (c : ChannelId) (x : Channel) (k : GateId) : (s.setChannel c x).gate k = s.gate k := rfl
@[simp] theorem State.setEntry_gate (s : State) (e : EntryId) (x : Entry) (k : GateId) : (s.setEntry e x).gate k = s.gate k := rfl
@[simp] theorem State.setLog_gate (s : State) (l : CaptureLog) (k : GateId) : (s.setLog l).gate k = s.gate k := rfl
@[simp] theorem State.setSession_gate (s : State) (p : PortId) (x : Option Session) (k : GateId) : (s.setSession p x).gate k = s.gate k := rfl
@[simp] theorem State.setOwner_gate (s : State) (r : Resource) (o : Option PortId) (k : GateId) : (s.setOwner r o).gate k = s.gate k := rfl
@[simp] theorem State.setPort_gate (s : State) (p : PortId) (x : Port) (k : GateId) : (s.setPort p x).gate k = s.gate k := rfl
@[simp] theorem State.setExecutor_gate (s : State) (e : Executor) (k : GateId) : (s.setExecutor e).gate k = s.gate k := rfl
@[simp] theorem State.request_gate (s : State) (c : Capture) (k : GateId) : (s.request c).gate k = s.gate k := rfl

@[simp] theorem State.setTime_session (s : State) (t : Timebase) (k : PortId) : (s.setTime t).session k = s.session k := rfl
@[simp] theorem State.setMark_session (s : State) (m : MarkUnit) (k : PortId) : (s.setMark m).session k = s.session k := rfl
@[simp] theorem State.setAxis_session (s : State) (n : AxisId) (x : Axis) (k : PortId) : (s.setAxis n x).session k = s.session k := rfl
@[simp] theorem State.setLine_session (s : State) (l : LineId) (x : TrigLine) (k : PortId) : (s.setLine l x).session k = s.session k := rfl
@[simp] theorem State.setChannel_session (s : State) (c : ChannelId) (x : Channel) (k : PortId) : (s.setChannel c x).session k = s.session k := rfl
@[simp] theorem State.setEntry_session (s : State) (e : EntryId) (x : Entry) (k : PortId) : (s.setEntry e x).session k = s.session k := rfl
@[simp] theorem State.setGate_session (s : State) (g : GateId) (x : Gate) (k : PortId) : (s.setGate g x).session k = s.session k := rfl
@[simp] theorem State.setLog_session (s : State) (l : CaptureLog) (k : PortId) : (s.setLog l).session k = s.session k := rfl
@[simp] theorem State.setOwner_session (s : State) (r : Resource) (o : Option PortId) (k : PortId) : (s.setOwner r o).session k = s.session k := rfl
@[simp] theorem State.setPort_session (s : State) (p : PortId) (x : Port) (k : PortId) : (s.setPort p x).session k = s.session k := rfl
@[simp] theorem State.setExecutor_session (s : State) (e : Executor) (k : PortId) : (s.setExecutor e).session k = s.session k := rfl
@[simp] theorem State.request_session (s : State) (c : Capture) (k : PortId) : (s.request c).session k = s.session k := rfl

@[simp] theorem State.setTime_owner (s : State) (t : Timebase) (k : Resource) : (s.setTime t).owner k = s.owner k := rfl
@[simp] theorem State.setMark_owner (s : State) (m : MarkUnit) (k : Resource) : (s.setMark m).owner k = s.owner k := rfl
@[simp] theorem State.setAxis_owner (s : State) (n : AxisId) (x : Axis) (k : Resource) : (s.setAxis n x).owner k = s.owner k := rfl
@[simp] theorem State.setLine_owner (s : State) (l : LineId) (x : TrigLine) (k : Resource) : (s.setLine l x).owner k = s.owner k := rfl
@[simp] theorem State.setChannel_owner (s : State) (c : ChannelId) (x : Channel) (k : Resource) : (s.setChannel c x).owner k = s.owner k := rfl
@[simp] theorem State.setEntry_owner (s : State) (e : EntryId) (x : Entry) (k : Resource) : (s.setEntry e x).owner k = s.owner k := rfl
@[simp] theorem State.setGate_owner (s : State) (g : GateId) (x : Gate) (k : Resource) : (s.setGate g x).owner k = s.owner k := rfl
@[simp] theorem State.setLog_owner (s : State) (l : CaptureLog) (k : Resource) : (s.setLog l).owner k = s.owner k := rfl
@[simp] theorem State.setSession_owner (s : State) (p : PortId) (x : Option Session) (k : Resource) : (s.setSession p x).owner k = s.owner k := rfl
@[simp] theorem State.setPort_owner (s : State) (p : PortId) (x : Port) (k : Resource) : (s.setPort p x).owner k = s.owner k := rfl
@[simp] theorem State.setExecutor_owner (s : State) (e : Executor) (k : Resource) : (s.setExecutor e).owner k = s.owner k := rfl
@[simp] theorem State.request_owner (s : State) (c : Capture) (k : Resource) : (s.request c).owner k = s.owner k := rfl

@[simp] theorem State.setTime_port (s : State) (t : Timebase) (k : PortId) : (s.setTime t).port k = s.port k := rfl
@[simp] theorem State.setMark_port (s : State) (m : MarkUnit) (k : PortId) : (s.setMark m).port k = s.port k := rfl
@[simp] theorem State.setAxis_port (s : State) (n : AxisId) (x : Axis) (k : PortId) : (s.setAxis n x).port k = s.port k := rfl
@[simp] theorem State.setLine_port (s : State) (l : LineId) (x : TrigLine) (k : PortId) : (s.setLine l x).port k = s.port k := rfl
@[simp] theorem State.setChannel_port (s : State) (c : ChannelId) (x : Channel) (k : PortId) : (s.setChannel c x).port k = s.port k := rfl
@[simp] theorem State.setEntry_port (s : State) (e : EntryId) (x : Entry) (k : PortId) : (s.setEntry e x).port k = s.port k := rfl
@[simp] theorem State.setGate_port (s : State) (g : GateId) (x : Gate) (k : PortId) : (s.setGate g x).port k = s.port k := rfl
@[simp] theorem State.setLog_port (s : State) (l : CaptureLog) (k : PortId) : (s.setLog l).port k = s.port k := rfl
@[simp] theorem State.setSession_port (s : State) (p : PortId) (x : Option Session) (k : PortId) : (s.setSession p x).port k = s.port k := rfl
@[simp] theorem State.setOwner_port (s : State) (r : Resource) (o : Option PortId) (k : PortId) : (s.setOwner r o).port k = s.port k := rfl
@[simp] theorem State.setExecutor_port (s : State) (e : Executor) (k : PortId) : (s.setExecutor e).port k = s.port k := rfl
@[simp] theorem State.request_port (s : State) (c : Capture) (k : PortId) : (s.request c).port k = s.port k := rfl

/-! ### Accessors under updates of their own unit -/

@[simp] theorem State.setAxis_axis_same (s : State) (n : AxisId) (x : Axis) : (s.setAxis n x).axis n = x :=
  Bank.read_write_same _ _ _

theorem State.setAxis_axis_ne (s : State) (n : AxisId) (x : Axis) {k : AxisId} (h : k ≠ n) : (s.setAxis n x).axis k = s.axis k :=
  Bank.read_write_ne _ _ h

theorem State.setAxis_axis (s : State) (n : AxisId) (x : Axis) (k : AxisId) : (s.setAxis n x).axis k = if k = n then x else s.axis k :=
  Bank.read_write _ _ _ _

@[simp] theorem State.setLine_trigLine_same (s : State) (l : LineId) (x : TrigLine) : (s.setLine l x).trigLine l = x :=
  Bank.read_write_same _ _ _

theorem State.setLine_trigLine_ne (s : State) (l : LineId) (x : TrigLine) {k : LineId} (h : k ≠ l) : (s.setLine l x).trigLine k = s.trigLine k :=
  Bank.read_write_ne _ _ h

theorem State.setLine_trigLine (s : State) (l : LineId) (x : TrigLine) (k : LineId) : (s.setLine l x).trigLine k = if k = l then x else s.trigLine k :=
  Bank.read_write _ _ _ _

@[simp] theorem State.setChannel_channel_same (s : State) (c : ChannelId) (x : Channel) : (s.setChannel c x).channel c = x :=
  Bank.read_write_same _ _ _

theorem State.setChannel_channel_ne (s : State) (c : ChannelId) (x : Channel) {k : ChannelId} (h : k ≠ c) : (s.setChannel c x).channel k = s.channel k :=
  Bank.read_write_ne _ _ h

theorem State.setChannel_channel (s : State) (c : ChannelId) (x : Channel) (k : ChannelId) : (s.setChannel c x).channel k = if k = c then x else s.channel k :=
  Bank.read_write _ _ _ _

@[simp] theorem State.setEntry_entry_same (s : State) (e : EntryId) (x : Entry) : (s.setEntry e x).entry e = x :=
  Bank.read_write_same _ _ _

theorem State.setEntry_entry_ne (s : State) (e : EntryId) (x : Entry) {k : EntryId} (h : k ≠ e) : (s.setEntry e x).entry k = s.entry k :=
  Bank.read_write_ne _ _ h

theorem State.setEntry_entry (s : State) (e : EntryId) (x : Entry) (k : EntryId) : (s.setEntry e x).entry k = if k = e then x else s.entry k :=
  Bank.read_write _ _ _ _

@[simp] theorem State.setGate_gate_same (s : State) (g : GateId) (x : Gate) : (s.setGate g x).gate g = x :=
  Bank.read_write_same _ _ _

theorem State.setGate_gate_ne (s : State) (g : GateId) (x : Gate) {k : GateId} (h : k ≠ g) : (s.setGate g x).gate k = s.gate k :=
  Bank.read_write_ne _ _ h

theorem State.setGate_gate (s : State) (g : GateId) (x : Gate) (k : GateId) : (s.setGate g x).gate k = if k = g then x else s.gate k :=
  Bank.read_write _ _ _ _

@[simp] theorem State.setSession_session_same (s : State) (p : PortId) (x : Option Session) : (s.setSession p x).session p = x :=
  Bank.read_write_same _ _ _

theorem State.setSession_session_ne (s : State) (p : PortId) (x : Option Session) {k : PortId} (h : k ≠ p) : (s.setSession p x).session k = s.session k :=
  Bank.read_write_ne _ _ h

theorem State.setSession_session (s : State) (p : PortId) (x : Option Session) (k : PortId) : (s.setSession p x).session k = if k = p then x else s.session k :=
  Bank.read_write _ _ _ _

@[simp] theorem State.setOwner_owner_same (s : State) (r : Resource) (o : Option PortId) : (s.setOwner r o).owner r = o :=
  Bank.read_write_same _ _ _

theorem State.setOwner_owner_ne (s : State) (r : Resource) (o : Option PortId) {k : Resource} (h : k ≠ r) : (s.setOwner r o).owner k = s.owner k :=
  Bank.read_write_ne _ _ (fun e => h (Resource.index_injective e))

theorem State.setOwner_owner (s : State) (r : Resource) (o : Option PortId) (k : Resource) : (s.setOwner r o).owner k = if k = r then o else s.owner k := by
  by_cases h : k = r
  · subst h; simp
  · simp [h, State.setOwner_owner_ne]

@[simp] theorem State.setPort_port_same (s : State) (p : PortId) (x : Port) : (s.setPort p x).port p = x :=
  Bank.read_write_same _ _ _

theorem State.setPort_port_ne (s : State) (p : PortId) (x : Port) {k : PortId} (h : k ≠ p) : (s.setPort p x).port k = s.port k :=
  Bank.read_write_ne _ _ h

theorem State.setPort_port (s : State) (p : PortId) (x : Port) (k : PortId) : (s.setPort p x).port k = if k = p then x else s.port k :=
  Bank.read_write _ _ _ _

/-! ### Writing back what is there -/

@[simp] theorem State.setAxis_self (s : State) (n : AxisId) : s.setAxis n (s.axis n) = s := by
  simp [State.setAxis, State.axis]

@[simp] theorem State.setLine_self (s : State) (l : LineId) : s.setLine l (s.trigLine l) = s := by
  simp [State.setLine, State.trigLine]

@[simp] theorem State.setChannel_self (s : State) (c : ChannelId) : s.setChannel c (s.channel c) = s := by
  simp [State.setChannel, State.channel]

@[simp] theorem State.setEntry_self (s : State) (e : EntryId) : s.setEntry e (s.entry e) = s := by
  simp [State.setEntry, State.entry]

@[simp] theorem State.setGate_self (s : State) (g : GateId) : s.setGate g (s.gate g) = s := by
  simp [State.setGate, State.gate]

@[simp] theorem State.setSession_self (s : State) (p : PortId) : s.setSession p (s.session p) = s := by
  simp [State.setSession, State.session]

@[simp] theorem State.setOwner_self (s : State) (r : Resource) : s.setOwner r (s.owner r) = s := by
  simp [State.setOwner, State.owner]

@[simp] theorem State.setPort_self (s : State) (p : PortId) : s.setPort p (s.port p) = s := by
  simp [State.setPort, State.port]

end Sys2Proof.Machine
end

