-- ==== Sys2Proof/Laws/Frames.lean ====
section
/-! SUPPORT. What the shared operations can change at all, as relations between the state before and the state after. -/

namespace Sys2Proof.Machine

/-- From `s` to `t` nothing but the sessions has changed. -/
def OnlySessions (s t : State) : Prop := t = { s with sessions := t.sessions }

@[refl] theorem OnlySessions.refl (s : State) : OnlySessions s s := rfl

theorem OnlySessions.trans (s t u : State) (h : OnlySessions s t) (k : OnlySessions t u) : OnlySessions s u := by
  unfold OnlySessions at *
  exact k.trans (by rw [h])

/-- From `s` to `t` nothing but the log and the sessions has changed. -/
def OnlyLog (s t : State) : Prop := t = { s with log := t.log, sessions := t.sessions }

@[refl] theorem OnlyLog.refl (s : State) : OnlyLog s s := rfl

theorem OnlyLog.trans (s t u : State) (h : OnlyLog s t) (k : OnlyLog t u) : OnlyLog s u := by
  unfold OnlyLog at *
  exact k.trans (by rw [h])

/-- From `s` to `t` nothing but the gates has changed. -/
def OnlyGates (s t : State) : Prop := t = { s with gates := t.gates }

@[refl] theorem OnlyGates.refl (s : State) : OnlyGates s s := rfl

theorem OnlyGates.trans (s t u : State) (h : OnlyGates s t) (k : OnlyGates t u) : OnlyGates s u := by
  unfold OnlyGates at *
  exact k.trans (by rw [h])

/-- From `s` to `t` nothing but the entries and the gates has changed. -/
def OnlyMet (s t : State) : Prop := t = { s with entries := t.entries, gates := t.gates }

@[refl] theorem OnlyMet.refl (s : State) : OnlyMet s s := rfl

theorem OnlyMet.trans (s t u : State) (h : OnlyMet s t) (k : OnlyMet t u) : OnlyMet s u := by
  unfold OnlyMet at *
  exact k.trans (by rw [h])

/-- From `s` to `t` nothing but the channels, the captures under way and the sessions has changed. -/
def OnlyEvents (s t : State) : Prop :=
  t = { s with channels := t.channels, underway := t.underway, sessions := t.sessions }

@[refl] theorem OnlyEvents.refl (s : State) : OnlyEvents s s := rfl

theorem OnlyEvents.trans (s t u : State) (h : OnlyEvents s t) (k : OnlyEvents t u) : OnlyEvents s u := by
  unfold OnlyEvents at *
  exact k.trans (by rw [h])

/-- From `s` to `t` nothing but the channels, the log, the captures under way and the sessions has changed. -/
def OnlyFiring (s t : State) : Prop :=
  t = { s with channels := t.channels, log := t.log, underway := t.underway, sessions := t.sessions }

@[refl] theorem OnlyFiring.refl (s : State) : OnlyFiring s s := rfl

theorem OnlyFiring.trans (s t u : State) (h : OnlyFiring s t) (k : OnlyFiring t u) : OnlyFiring s u := by
  unfold OnlyFiring at *
  exact k.trans (by rw [h])

/-- From `s` to `t` nothing but the entries, the gates, the MARK unit and the sessions has changed. -/
def OnlyOffer (s t : State) : Prop :=
  t = { s with entries := t.entries, gates := t.gates, mark := t.mark, sessions := t.sessions }

@[refl] theorem OnlyOffer.refl (s : State) : OnlyOffer s s := rfl

theorem OnlyOffer.trans (s t u : State) (h : OnlyOffer s t) (k : OnlyOffer t u) : OnlyOffer s u := by
  unfold OnlyOffer at *
  exact k.trans (by rw [h])

/-- From `s` to `t` nothing but the axes, what an offer changes and what trigger events change has changed. -/
def OnlyAxis (s t : State) : Prop :=
  t = { s with axes := t.axes, entries := t.entries, gates := t.gates, channels := t.channels, mark := t.mark, underway := t.underway
               sessions := t.sessions }

@[refl] theorem OnlyAxis.refl (s : State) : OnlyAxis s s := rfl

theorem OnlyAxis.trans (s t u : State) (h : OnlyAxis s t) (k : OnlyAxis t u) : OnlyAxis s u := by
  unfold OnlyAxis at *
  exact k.trans (by rw [h])

/-- From `s` to `t` nothing but the timebase, the channels, the entries, the gates and the claims has changed. -/
def OnlyPark (s t : State) : Prop := t = { s with time := t.time, channels := t.channels, entries := t.entries, gates := t.gates, claims := t.claims }

@[refl] theorem OnlyPark.refl (s : State) : OnlyPark s s := rfl

theorem OnlyPark.trans (s t u : State) (h : OnlyPark s t) (k : OnlyPark t u) : OnlyPark s u := by
  unfold OnlyPark at *
  exact k.trans (by rw [h])

theorem OnlySessions.onlyLog {s t : State} (h : OnlySessions s t) : OnlyLog s t := by
  unfold OnlySessions OnlyLog at *
  rw [h]

theorem OnlySessions.onlyEvents {s t : State} (h : OnlySessions s t) : OnlyEvents s t := by
  unfold OnlySessions OnlyEvents at *
  rw [h]

theorem OnlyEvents.onlyFiring {s t : State} (h : OnlyEvents s t) : OnlyFiring s t := by
  unfold OnlyEvents OnlyFiring at *
  rw [h]

theorem OnlySessions.onlyFiring {s t : State} (h : OnlySessions s t) : OnlyFiring s t := by
  unfold OnlySessions OnlyFiring at *
  rw [h]

theorem OnlySessions.onlyOffer {s t : State} (h : OnlySessions s t) : OnlyOffer s t := by
  unfold OnlySessions OnlyOffer at *
  rw [h]

theorem OnlySessions.onlyAxis {s t : State} (h : OnlySessions s t) : OnlyAxis s t := by
  unfold OnlySessions OnlyAxis at *
  rw [h]

theorem OnlyLog.onlyFiring {s t : State} (h : OnlyLog s t) : OnlyFiring s t := by
  unfold OnlyLog OnlyFiring at *
  rw [h]

theorem OnlyGates.onlyMet {s t : State} (h : OnlyGates s t) : OnlyMet s t := by
  unfold OnlyGates OnlyMet at *
  rw [h]

theorem OnlyGates.onlyOffer {s t : State} (h : OnlyGates s t) : OnlyOffer s t := by
  unfold OnlyGates OnlyOffer at *
  rw [h]

theorem OnlyGates.onlyAxis {s t : State} (h : OnlyGates s t) : OnlyAxis s t := by
  unfold OnlyGates OnlyAxis at *
  rw [h]

theorem OnlyGates.onlyPark {s t : State} (h : OnlyGates s t) : OnlyPark s t := by
  unfold OnlyGates OnlyPark at *
  rw [h]

theorem OnlyMet.onlyOffer {s t : State} (h : OnlyMet s t) : OnlyOffer s t := by
  unfold OnlyMet OnlyOffer at *
  rw [h]

theorem OnlyMet.onlyAxis {s t : State} (h : OnlyMet s t) : OnlyAxis s t := by
  unfold OnlyMet OnlyAxis at *
  rw [h]

theorem OnlyMet.onlyPark {s t : State} (h : OnlyMet s t) : OnlyPark s t := by
  unfold OnlyMet OnlyPark at *
  rw [h]

theorem OnlyEvents.onlyAxis {s t : State} (h : OnlyEvents s t) : OnlyAxis s t := by
  unfold OnlyEvents OnlyAxis at *
  rw [h]

theorem OnlyOffer.onlyAxis {s t : State} (h : OnlyOffer s t) : OnlyAxis s t := by
  unfold OnlyOffer OnlyAxis at *
  rw [h]

end Sys2Proof.Machine
end

