-- ==== Sys2Proof/Laws/Events.lean ====
section
/-! SUPPORT. What the filing of an event and the replacing of a reader can do (R152, R153, R25). -/

namespace Sys2Proof.Machine

/-- A session with one raising filed in its records. -/
def Session.filed (ev : Event) (ses : Session) : Session := { ses with records := ses.records.file ev }

/-- A raising to a port files in its session, if it has one, and does nothing else. -/
theorem State.raiseTo_session (s : State) (p q : PortId) (ev : Event) :
    (s.raiseTo p ev).session q = if q = p then (s.session q).map (Session.filed ev) else s.session q := by
  unfold State.raiseTo
  by_cases h : q = p
  · subst h; cases hs : s.session q <;> simp [hs, Session.filed]
  · cases hs : s.session p <;> simp [h, State.setSession_session_ne]

theorem State.raiseTo_only (s : State) (p : PortId) (ev : Event) : OnlySessions s (s.raiseTo p ev) := by
  unfold State.raiseTo; split <;> rfl

theorem State.raiseToOwner_of_none {s : State} {r : Resource} (ev : Event) (h : s.owner r = none) :
    s.raiseToOwner r ev = s := by simp [State.raiseToOwner, h]

theorem State.raiseToOwner_of_some {s : State} {r : Resource} {p : PortId} (ev : Event) (h : s.owner r = some p) :
    s.raiseToOwner r ev = s.raiseTo p ev := by simp [State.raiseToOwner, h]

theorem State.raiseToOwner_only (s : State) (r : Resource) (ev : Event) : OnlySessions s (s.raiseToOwner r ev) := by
  unfold State.raiseToOwner
  split
  · exact OnlySessions.refl s
  · exact s.raiseTo_only _ ev

theorem State.raiseToAll_only (s : State) (ev : Event) : OnlySessions s (s.raiseToAll ev) :=
  foldl_reaches OnlySessions OnlySessions.refl OnlySessions.trans _ (fun t p => t.raiseTo_only p ev) allPorts s

theorem State.raiseToReaders_only (s : State) (ev : Event) : OnlySessions s (s.raiseToReaders ev) :=
  foldl_reaches OnlySessions OnlySessions.refl OnlySessions.trans _
    (fun t p => by split <;> [exact t.raiseTo_only p ev; exact OnlySessions.refl t]) allPorts s

/-- What is done to the session of one port after the other, reading nothing of the other sessions, is done to each. -/
theorem foldl_ports_session {K : Type} (key : State → K) (g : K → Session → Session) (f : State → PortId → State)
    (hkey : ∀ t p, key (f t p) = key t)
    (h : ∀ t p q, (f t p).session q = if q = p then (t.session q).map (g (key t)) else t.session q) (s : State) (q : PortId) :
    (allPorts.foldl f s).session q = (s.session q).map (g (key s)) := by
  revert q
  simp only [allPorts, List.foldl_cons, List.foldl_nil]
  intro q
  fin_cases q <;> simp [h, hkey]

/-- Replacing the reader of a port's session, if it has a session, does nothing else. -/
theorem State.setReader_session (s : State) (p q : PortId) (r : Option Reader) :
    (s.setReader p r).session q =
      if q = p then (s.session q).map (fun ses => { ses with reader := r }) else s.session q := by
  unfold State.setReader
  by_cases h : q = p
  · subst h; cases hs : s.session q <;> simp [hs]
  · cases hs : s.session p <;> simp [h, State.setSession_session_ne]

theorem State.setReader_only (s : State) (p : PortId) (r : Option Reader) : OnlySessions s (s.setReader p r) := by
  unfold State.setReader; split <;> rfl

/-- The reader of a port is that of its session. -/
theorem State.reader_eq (s : State) (p : PortId) : s.reader p = (s.session p).bind Session.reader := by
  unfold State.reader; cases s.session p <;> rfl

end Sys2Proof.Machine
end

