-- ==== Sys2Proof/Laws/Log.lean ====
section
/-! SUPPORT. What the taking of a capture request is made of: the level check, the lap, the eviction, the write and the drop
(R11 to R16, R31, R33). -/

namespace Sys2Proof.Machine

/-- A session after the level check of its reader at a head (R31, R32). -/
def Session.levelChecked (head : Seq) (ses : Session) : Session :=
  match ses.reader with
  | none => ses
  | some r =>
    if distance head r.cursor < r.watermark then { ses with reader := some { r with level := false } }
    else if r.level then ses
    else { ses with reader := some { r with level := true }, records := ses.records.file .logLevel }

/-- A session after the eviction of the record at `tail`: a LOSSY reader that stood there is lapped (R12, R33). -/
def Session.lapped (tail : Seq) (ses : Session) : Session :=
  match ses.reader with
  | none => ses
  | some r =>
    if r.mode = .lossy ∧ r.cursor = tail then
      { ses with reader := some { r with cursor := r.cursor + 1, lost := saturate Config.counterLimit r.lost }
                 records := ses.records.file .logLapped }
    else ses

/-- The level check of one port acts on its session alone. -/
theorem State.levelCheck_session (s : State) (p q : PortId) :
    (s.levelCheck p).session q =
      if q = p then (s.session q).map (Session.levelChecked s.log.head) else s.session q := by
  unfold State.levelCheck
  rw [State.reader_eq]
  by_cases h : q = p
  · subst h
    cases hs : s.session q with
    | none => simp [hs]
    | some ses =>
      cases hr : ses.reader with
      | none => simp [hs, hr, Session.levelChecked]
      | some r =>
        have e : s.log.unread r = distance s.log.head r.cursor := rfl
        simp only [Option.bind_some, hr, if_true, Option.map_some, Session.levelChecked, ← e]
        by_cases hw : s.log.unread r < r.watermark
        · simp [hw, State.setReader_session, hs]
        · by_cases hl : r.level = true
          · simp [hw, hl, hs]
          · simp [hw, hl, State.raiseTo_session, State.setReader_session, hs, Session.filed]
  · cases hs : (s.session p).bind Session.reader with
    | none => simp [h]
    | some r =>
      simp only [h, if_false]
      split
      · simp [State.setReader_session, h]
      · split
        · rfl
        · simp [State.raiseTo_session, State.setReader_session, h]

theorem State.levelCheck_only (s : State) (p : PortId) : OnlySessions s (s.levelCheck p) := by
  unfold State.levelCheck
  split
  · exact OnlySessions.refl s
  · split
    · exact s.setReader_only p _
    · split
      · exact OnlySessions.refl s
      · exact OnlySessions.trans _ _ _ (s.setReader_only p _) (State.raiseTo_only _ p _)

/-- What a change of the sessions alone leaves of the log. -/
theorem OnlySessions.log {s t : State} (h : OnlySessions s t) : t.log = s.log := by rw [h]

theorem State.levelChecks_session (s : State) (q : PortId) :
    s.levelChecks.session q = (s.session q).map (Session.levelChecked s.log.head) :=
  foldl_ports_session (fun t => t.log.head) Session.levelChecked State.levelCheck
    (fun t p => by rw [(t.levelCheck_only p).log]) (fun t p q => t.levelCheck_session p q) s q

theorem State.levelChecks_only (s : State) : OnlySessions s s.levelChecks :=
  foldl_reaches OnlySessions OnlySessions.refl OnlySessions.trans _ (fun t p => t.levelCheck_only p) allPorts s

/-- The lap of one port acts on its session alone. -/
theorem State.lap_session (tail : Seq) (s : State) (p q : PortId) :
    (State.lap tail s p).session q = if q = p then (s.session q).map (Session.lapped tail) else s.session q := by
  unfold State.lap
  rw [State.reader_eq]
  by_cases h : q = p
  · subst h
    cases hs : s.session q with
    | none => simp [hs]
    | some ses =>
      cases hr : ses.reader with
      | none => simp [hs, hr, Session.lapped]
      | some r =>
        simp only [Option.bind_some, hr, if_true, Option.map_some, Session.lapped]
        split
        · simp [State.raiseTo_session, State.setReader_session, hs, Session.filed]
        · exact hs
  · cases hs : (s.session p).bind Session.reader with
    | none => simp [h]
    | some r =>
      simp only [h, if_false]
      split
      · simp [State.raiseTo_session, State.setReader_session, h]
      · rfl

theorem State.lap_only (tail : Seq) (s : State) (p : PortId) : OnlySessions s (State.lap tail s p) := by
  unfold State.lap
  split
  · exact OnlySessions.refl s
  · split
    · exact OnlySessions.trans _ _ _ (s.setReader_only p _) (State.raiseTo_only _ p _)
    · exact OnlySessions.refl s

theorem State.setLog_only (s : State) (l : CaptureLog) : OnlyLog s (s.setLog l) := rfl

/-- An eviction takes the record at the tail out of the window and laps the readers that stood there (R12). -/
theorem State.evict_session (s : State) (q : PortId) :
    s.evict.session q = (s.session q).map (Session.lapped s.log.tail) :=
  foldl_ports_session (fun _ => s.log.tail) Session.lapped (State.lap s.log.tail) (fun _ _ => rfl)
    (fun t p q => State.lap_session s.log.tail t p q) (s.setLog _) q

theorem State.evict_log (s : State) :
    s.evict.log = { s.log with records := s.log.records.tail, tail := s.log.tail + 1 } :=
  foldl_keeps State.log _ (fun t p => (State.lap_only s.log.tail t p).log) allPorts (s.setLog _)

theorem State.evict_only (s : State) : OnlyLog s s.evict :=
  OnlyLog.trans _ _ _ (s.setLog_only _)
    (foldl_reaches OnlySessions OnlySessions.refl OnlySessions.trans _ (fun t p => State.lap_only s.log.tail t p)
      allPorts _).onlyLog

/-- A write appends the record with seq = head and checks every reader's level at the new head (R11). -/
theorem State.write_session (s : State) (c : Capture) (q : PortId) :
    (s.write c).session q = (s.session q).map (Session.levelChecked (s.log.head + 1)) :=
  State.levelChecks_session _ q

theorem State.write_log (s : State) (c : Capture) :
    (s.write c).log = { s.log with records := s.log.records ++ [c.record s.log.head], head := s.log.head + 1 } :=
  (State.levelChecks_only _).log

theorem State.write_only (s : State) (c : Capture) : OnlyLog s (s.write c) :=
  OnlyLog.trans _ _ _ (s.setLog_only _) (State.levelChecks_only _).onlyLog

theorem State.drop_eq (s : State) :
    s.drop = (s.setLog { s.log with drops := saturate Config.counterLimit s.log.drops }).raiseToReaders .logDrop := rfl

/-- A drop counts at the log and files LOG_DROP where there is a reader (R13, R15, R16). -/
theorem State.drop_log (s : State) : s.drop.log = { s.log with drops := saturate Config.counterLimit s.log.drops } := by
  rw [s.drop_eq, (State.raiseToReaders_only _ _).log]
  rfl

theorem State.drop_only (s : State) : OnlyLog s s.drop := by
  rw [s.drop_eq]
  exact OnlyLog.trans _ _ _ (s.setLog_only _) (State.raiseToReaders_only _ _).onlyLog

/-- The taking of a capture request changes the log and the sessions alone. -/
theorem State.capture_only (s : State) (c : Capture) : OnlyLog s (s.capture c).1 := by
  unfold State.capture
  split
  · dsimp only
    exact s.write_only c
  · split
    · dsimp only
      exact s.drop_only
    · dsimp only
      exact OnlyLog.trans s s.evict _ s.evict_only (s.evict.write_only c)

/-- The outcome of a capture is the old head, or nothing. -/
theorem State.capture_outcome (s : State) (c : Capture) (seq : Seq) (h : (s.capture c).2 = some seq) : seq = s.log.head := by
  unfold State.capture at h
  split at h
  · simpa using h.symm
  · split at h
    · cases h
    · simpa using h.symm

/-- One value entry for each axis of the set, and nothing else. -/
theorem State.mem_sampleAxes (s : State) (set : AxisSet) (v : ValueEntry) :
    v ∈ s.sampleAxes set ↔ ∃ n, inSet set n.val = true ∧ v = s.sampleAxis n := by
  simp only [State.sampleAxes, List.mem_map, List.mem_filter, mem_allAxes, true_and]
  exact ⟨fun ⟨n, h, e⟩ => ⟨n, h, e.symm⟩, fun ⟨n, h, e⟩ => ⟨n, h, e.symm⟩⟩

/-! ### Captures under way (R9) -/

/-- The log and the requester's drop count, and the sessions with them, are all that a hand-over changes (R10, R14). -/
theorem State.handOver_only (s : State) (c : Capture) : OnlyFiring s (s.handOver c).1 := by
  have h := (s.capture_only c).onlyFiring
  unfold State.handOver
  dsimp only
  split
  · exact OnlyFiring.trans s _ _ h rfl
  · exact h
  · exact h
  · exact h

theorem State.arrive_only (s : State) (now rest : List Capture) : OnlyFiring s (s.arrive now rest) :=
  OnlyFiring.trans s { s with underway := rest } _ rfl
    (foldl_reaches OnlyFiring OnlyFiring.refl OnlyFiring.trans _ State.handOver_only now _)

/-- A hand-over leaves the captures still under way as they are. -/
@[simp] theorem State.handOver_underway (s : State) (c : Capture) : (s.handOver c).1.underway = s.underway := by
  have h : (s.capture c).1.underway = s.underway := by rw [s.capture_only c]
  unfold State.handOver
  dsimp only
  split <;> simpa using h

/-- What stays under way is what the arrival names. -/
@[simp] theorem State.arrive_underway (s : State) (now rest : List Capture) : (s.arrive now rest).underway = rest :=
  foldl_keeps State.underway _ State.handOver_underway now { s with underway := rest }

/-- Once every capture has reached the log, none is under way. -/
@[simp] theorem State.allReachLog_underway (s : State) : s.allReachLog.underway = [] := s.arrive_underway _ _

/-- With nothing under way nothing reaches the log. -/
theorem State.allReachLog_of {s : State} (h : s.underway = []) : s.allReachLog = s := by
  unfold State.allReachLog State.arrive
  rw [h]
  cases s
  cases h
  rfl

/-- Arranging the captures only changes their order. -/
theorem arranged_perm (first : List Cause) (l : List Capture) : (arranged first l).Perm l := by
  induction first generalizing l with
  | nil => exact List.Perm.refl _
  | cons x first ih =>
    unfold arranged
    exact ((ih _).append_left _).trans (List.filter_append_perm (fun c => decide (c.cause = x)) l)

/-- Captures of different causes can be arranged in every order, by naming their causes in it (R9). -/
theorem arranged_eq {l m : List Capture} (hp : l.Perm m) (hn : (l.map Capture.cause).Nodup) :
    arranged (l.map Capture.cause) m = l := by
  induction l generalizing m with
  | nil => simpa [arranged] using hp.symm.eq_nil
  | cons x l ih =>
    obtain ⟨hx, hn⟩ := List.nodup_cons.mp (by simpa using hn : (x.cause :: l.map Capture.cause).Nodup)
    have other : ∀ c ∈ l, c.cause ≠ x.cause := fun c hc e => hx (List.mem_map.mpr ⟨c, hc, e⟩)
    have own : m.filter (fun c => decide (c.cause = x.cause)) = [x] := by
      have h := hp.filter (fun c => decide (c.cause = x.cause))
      rw [List.filter_cons_of_pos (by simp), List.filter_eq_nil_iff.mpr (fun c hc => by simpa using other c hc)] at h
      exact List.perm_singleton.mp h.symm
    have rest : l.Perm (m.filter (fun c => !decide (c.cause = x.cause))) := by
      have h := hp.filter (fun c => !decide (c.cause = x.cause))
      rwa [List.filter_cons_of_neg (by simp), List.filter_eq_self.mpr (fun c hc => by simpa using other c hc)] at h
    rw [List.map_cons, arranged, own, ih rest hn, List.singleton_append]

/-- A command brings some of the captures under way to the log and leaves the last `later` (R9). -/
theorem State.reachLog_eq (s : State) (order : LogOrder) :
    ∃ now rest, (now ++ rest).Perm s.underway ∧ rest.length = min order.later s.underway.length ∧
      s.reachLog order = s.arrive now rest := by
  have hl := (arranged_perm order.first s.underway).length_eq
  refine ⟨_, _, ?_, ?_, rfl⟩
  · rw [List.take_append_drop]
    exact arranged_perm _ _
  · rw [List.length_drop, hl]
    omega

/-- A command that names the captures under way brings any of them to the log, in any order (R9). -/
theorem State.reachLog_names {s : State} {now rest : List Capture} (hp : (now ++ rest).Perm s.underway)
    (hn : ((now ++ rest).map Capture.cause).Nodup) :
    s.reachLog { first := (now ++ rest).map Capture.cause, later := rest.length } = s.arrive now rest := by
  unfold State.reachLog
  dsimp only
  rw [arranged_eq hp hn]
  simp

/-- With nothing under way a command's order is none. -/
theorem State.reachLog_of {s : State} (h : s.underway = []) (order : LogOrder) : s.reachLog order = s := by
  obtain ⟨now, rest, hp, -, he⟩ := s.reachLog_eq order
  rw [h] at hp
  obtain ⟨rfl, rfl⟩ := List.append_eq_nil_iff.mp hp.eq_nil
  rw [he]
  have := State.allReachLog_of h
  unfold State.allReachLog at this
  rwa [h] at this

end Sys2Proof.Machine
end

