-- ==== Sys2Proof/Laws/Trigger.lean ====
section
/-! SUPPORT. What a firing is made of, and that trigger events change the channels, the captures under way and the sessions alone
(R9, R49 to R52). -/

namespace Sys2Proof.Machine

theorem State.setChannel_only (s : State) (c : ChannelId) (x : Channel) : OnlyEvents s (s.setChannel c x) := rfl

theorem State.request_only (s : State) (c : Capture) : OnlyEvents s (s.request c) := rfl

/-- The fired notice reaches each of the seven other channels once (R49). -/
theorem State.noticeAll_channel (s : State) (c d : ChannelId) :
    (s.noticeAll c).channel d = if d = c then s.channel d else (s.channel d).notice c := by
  have step : ∀ (t : State) (e : ChannelId),
      (if e = c then t else t.setChannel e ((t.channel e).notice c)).channel d =
        if d = e ∧ d ≠ c then (t.channel d).notice c else t.channel d := by
    intro t e
    by_cases hec : e = c
    · subst hec; simp
    · by_cases hde : d = e
      · subst hde; simp [hec]
      · simp [hec, hde, State.setChannel_channel_ne]
  unfold State.noticeAll
  simp only [allChannels, List.foldl_cons, List.foldl_nil, step]
  by_cases hdc : d = c
  · simp [hdc]
  · simp only [hdc, ne_eq, not_false_eq_true, and_true, if_false]
    clear step
    revert hdc
    fin_cases d <;> intro _ <;> simp

theorem State.noticeAll_only (s : State) (c : ChannelId) : OnlyEvents s (s.noticeAll c) :=
  foldl_reaches OnlyEvents OnlyEvents.refl OnlyEvents.trans _
    (fun t d => by split <;> [exact OnlyEvents.refl t; exact t.setChannel_only d _]) allChannels s

theorem State.noticeAll_sessions (s : State) (c : ChannelId) : (s.noticeAll c).sessions = s.sessions :=
  foldl_keeps State.sessions _ (fun t d => by split <;> rfl) allChannels s

theorem State.fire_only (s : State) (c : ChannelId) : OnlyEvents s (s.fire c) := by
  have h := State.noticeAll_only s c
  unfold State.fire
  dsimp only
  refine OnlyEvents.trans s _ _ ?_ (State.setChannel_only _ c _)
  split
  · exact OnlyEvents.trans s _ _ h (State.raiseToOwner_only _ _ _).onlyEvents
  · exact h

/-- A firing of itself requests nothing: its capture is requested beside it (R52). -/
theorem State.fire_underway (s : State) (c : ChannelId) : (s.fire c).underway = s.underway := by
  have h : (s.noticeAll c).underway = s.underway :=
    foldl_keeps State.underway _ (fun t d => by split <;> rfl) allChannels s
  unfold State.fire
  dsimp only
  rw [State.setChannel_underway]
  split
  · rw [State.raiseToOwner_only]; exact h
  · exact h

/-- A firing counts at its channel, and every other channel takes the fired notice (R49, R52). -/
theorem State.fire_channel (s : State) (c d : ChannelId) :
    (s.fire c).channel d = if d = c then (s.channel c).afterFiring else (s.channel d).notice c := by
  have told : ∀ (t : State) (b : Bool) (k : ChannelId),
      (if b = true then t.raiseToOwner (.channel c) (.trigFired c) else t).channel k = t.channel k := by
    intro t b k
    cases b
    · rfl
    · have h := State.raiseToOwner_only t (.channel c) (.trigFired c)
      simp only [if_true]
      rw [h]
      rfl
  unfold State.fire
  dsimp only
  rw [State.setChannel_channel, told, State.noticeAll_channel, State.noticeAll_channel]
  simp only [if_true]
  split <;> rfl

/-- A trigger event at a channel changes the channels, the captures under way and the sessions alone (R51, R9). -/
theorem State.triggerEvent_only (s : State) (c : ChannelId) : OnlyEvents s (s.triggerEvent c) := by
  unfold State.triggerEvent
  dsimp only
  split
  · exact OnlyEvents.refl s
  · exact OnlyEvents.refl s
  · exact OnlyEvents.trans s _ _ (s.request_only _) (State.fire_only _ c)
  · exact OnlyEvents.trans s _ _ (s.setChannel_only c _) (State.raiseToOwner_only _ _ _).onlyEvents
  · exact OnlyEvents.trans s _ _ (s.setChannel_only c _) (State.raiseToOwner_only _ _ _).onlyEvents

theorem State.triggerEvents_only (s : State) (l : List ChannelId) : OnlyEvents s (s.triggerEvents l) :=
  foldl_reaches OnlyEvents OnlyEvents.refl OnlyEvents.trans _ State.triggerEvent_only l s

/-- A trigger event requests the capture of burst index 0 exactly in ARMED (R51, R52). -/
theorem State.triggerEvent_underway (s : State) (c : ChannelId) :
    (s.triggerEvent c).underway =
      if (s.channel c).state = .armed then s.underway ++ [s.channelCapture c 0] else s.underway := by
  unfold State.triggerEvent
  dsimp only
  split <;> rename_i h <;> simp only [h, reduceCtorEq, if_true, if_false]
  · rw [State.fire_underway, State.request_underway]
  · rw [State.raiseToOwner_only]; rfl
  · rw [State.raiseToOwner_only]; rfl

/-- The channels a happening at a source reaches: each of those the source and the edge select, once (R44). -/
theorem State.mem_edgeChannels (s : State) (src : Source) (l : Level) (order : List ChannelId) (c : ChannelId) :
    c ∈ s.edgeChannels src l order ↔
      (s.channel c).config.source = src ∧ (s.channel c).config.edge.selects l = true := by
  simp [State.edgeChannels]

theorem State.nodup_edgeChannels (s : State) (src : Source) (l : Level) (order : List ChannelId) :
    (s.edgeChannels src l order).Nodup := (nodup_preferred order nodup_allChannels).filter _

theorem State.mem_sourceChannels (s : State) (src : Source) (order : List ChannelId) (c : ChannelId) :
    c ∈ s.sourceChannels src order ↔ (s.channel c).config.source = src := by simp [State.sourceChannels]

theorem State.nodup_sourceChannels (s : State) (src : Source) (order : List ChannelId) :
    (s.sourceChannels src order).Nodup := (nodup_preferred order nodup_allChannels).filter _

/-- A burst step changes the channels, the captures under way and the sessions alone (R54). -/
theorem State.takeBurstStep_only (s : State) (c : ChannelId) : OnlyEvents s (s.takeBurstStep c) := by
  have h := OnlyEvents.trans s _ _ (s.request_only (s.channelCapture c (s.channel c).nextIndex))
    (State.setChannel_only _ c (s.channel c).afterStep)
  unfold State.takeBurstStep
  dsimp only
  split
  · split
    · exact h
    · exact OnlyEvents.trans s _ _ h (State.raiseToOwner_only _ _ _).onlyEvents
  · exact OnlyEvents.refl s

end Sys2Proof.Machine
end

