-- ==== Sys2Proof/Laws/Compare.lean ====
section
/-! SUPPORT. What the gates, the MARK unit, an offer, a hit and a decoded comparison can change (R87, R99 to R101, R107, R108,
R124). -/

namespace Sys2Proof.Machine

/-! ### Gates -/

@[simp] theorem State.followGates_gate (s : State) (e : EntryId) (g : GateId) :
    (s.followGates e).gate g = s.followGate e (s.gate g) := Bank.read_mapAll s.gates (s.followGate e) g

@[simp] theorem State.pulseGates_gate (s : State) (e : EntryId) (g : GateId) :
    (s.pulseGates e).gate g = (s.gate g).hit e := Bank.read_mapAll s.gates (fun x => x.hit e) g

theorem State.followGates_only (s : State) (e : EntryId) : OnlyGates s (s.followGates e) := rfl
theorem State.pulseGates_only (s : State) (e : EntryId) : OnlyGates s (s.pulseGates e) := rfl
theorem State.setEntry_only (s : State) (e : EntryId) (x : Entry) : OnlyMet s (s.setEntry e x) := rfl
theorem State.setMark_only (s : State) (m : MarkUnit) : OnlyOffer s (s.setMark m) := rfl
theorem State.setAxis_only (s : State) (n : AxisId) (x : Axis) : OnlyAxis s (s.setAxis n x) := rfl

/-! ### Entries -/

theorem State.setMet_only (s : State) (e : EntryId) (met : Bool) : OnlyMet s (s.setMet e met) := by
  unfold State.setMet
  dsimp only
  split
  · exact OnlyMet.refl s
  · exact OnlyMet.trans s _ _ (s.setEntry_only e _) (State.followGates_only _ e).onlyMet

/-- The met flag of an entry replaced, the others left. -/
theorem State.setMet_entry (s : State) (e k : EntryId) (met : Bool) :
    (s.setMet e met).entry k = if k = e then { s.entry e with met := met } else s.entry k := by
  unfold State.setMet
  dsimp only
  split
  · next h => by_cases hk : k = e <;> simp [hk, ← h]
  · exact State.setEntry_entry s e _ k

theorem State.replaceEntry_only (s : State) (e : EntryId) (x : Entry) : OnlyMet s (s.replaceEntry e x) := by
  unfold State.replaceEntry
  dsimp only
  split
  · exact s.setEntry_only e x
  · exact OnlyMet.trans s _ _ (s.setEntry_only e _) (State.followGates_only _ e).onlyMet

theorem State.replaceEntry_entry (s : State) (e k : EntryId) (x : Entry) :
    (s.replaceEntry e x).entry k = if k = e then x else s.entry k := by
  unfold State.replaceEntry
  dsimp only
  split <;> exact State.setEntry_entry s e x k

theorem State.requestMark_only (s : State) (e : EntryId) : OnlyOffer s (s.requestMark e) := by
  unfold State.requestMark
  split
  · exact s.setMark_only _
  · exact (s.setEntry_only e _).onlyOffer

/-- A hit, its trigger events apart, changes the entries, the gates, the MARK unit and the sessions alone (R100). -/
theorem State.hit_only (s : State) (e : EntryId) : OnlyOffer s (s.hit e) := by
  have told : ∀ t : State, OnlyOffer s t → ∀ b : Bool,
      OnlyOffer s (if b = true then t.raiseToOwner (.entry e) (.cmpHit e) else t) := by
    intro t ht b
    cases b
    · simpa using ht
    · simpa using OnlyOffer.trans s t _ ht (State.raiseToOwner_only _ _ _).onlyOffer
  have marked : ∀ t : State, OnlyOffer s t → ∀ b : Bool, OnlyOffer s (if b = true then t.requestMark e else t) := by
    intro t ht b
    cases b
    · simpa using ht
    · simpa using OnlyOffer.trans s t _ ht (t.requestMark_only e)
  unfold State.hit
  dsimp only
  apply marked
  refine OnlyOffer.trans s _ _ ?_ (State.pulseGates_only _ e).onlyOffer
  exact told _ (s.setEntry_only e _).onlyOffer _

theorem State.offerEntry_only (kind : OfferKind) (v : Int) (s : State) (e : EntryId) :
    OnlyOffer s (State.offerEntry kind v s e) := by
  unfold State.offerEntry
  dsimp only
  split
  · exact OnlyOffer.refl s
  · split
    · exact OnlyOffer.trans s _ _ (s.setMet_only e _).onlyOffer (State.hit_only _ e)
    · exact (s.setMet_only e _).onlyOffer

/-- An offer reaches each entry that watches the axis once (R99). -/
theorem State.mem_watchers (s : State) (n : AxisId) (order : List EntryId) (e : EntryId) :
    e ∈ s.watchers n order ↔ (s.entry e).axis = n := by simp [State.watchers]

theorem State.nodup_watchers (s : State) (n : AxisId) (order : List EntryId) : (s.watchers n order).Nodup :=
  (nodup_preferred order nodup_allEntries).filter _

theorem State.offer_only (s : State) (n : AxisId) (kind : OfferKind) (es : List EntryId) : OnlyOffer s (s.offer n kind es) :=
  foldl_reaches OnlyOffer OnlyOffer.refl OnlyOffer.trans _ (State.offerEntry_only kind _) _ s

/-- The trigger events of a step reach each channel whose source is an entry that hits, once (R44, R100). -/
theorem State.mem_hitChannels (s : State) (n : AxisId) (order : List ChannelId) (c : ChannelId) :
    c ∈ s.hitChannels n order ↔ ∃ e, s.hits n e = true ∧ (s.channel c).config.source = .entry e := by
  simp [State.hitChannels]

theorem State.nodup_hitChannels (s : State) (n : AxisId) (order : List ChannelId) : (s.hitChannels n order).Nodup :=
  (nodup_preferred order nodup_allChannels).filter _

/-- A step that names the channels its hits reach takes their trigger events in that order: every order can be had (R63). -/
theorem State.hitChannels_eq {s : State} {n : AxisId} {order : List ChannelId} (hn : order.Nodup)
    (h : ∀ c, c ∈ order ↔ ∃ e, s.hits n e = true ∧ (s.channel c).config.source = .entry e) : s.hitChannels n order = order :=
  filter_preferred hn nodup_allChannels _ (fun c => by simp [h])

/-! ### Axes -/

theorem State.faultAxis_only (s : State) (n : AxisId) (x : Axis) (c : FaultCause) : OnlyAxis s (s.faultAxis n x c) :=
  OnlyAxis.trans s _ _ (s.setAxis_only n _) (State.raiseToOwner_only _ _ _).onlyAxis

theorem State.applyDecoded_only (s : State) (n : AxisId) (d : Decoded) (es : List EntryId) (cs : List ChannelId) :
    OnlyAxis s (s.applyDecoded n d es cs) := by
  unfold State.applyDecoded
  dsimp only
  split
  · exact OnlyAxis.refl s
  · split
    · exact OnlyAxis.refl s
    · exact s.faultAxis_only n _ _
    · split
      · exact OnlyAxis.trans s _ _ (OnlyAxis.trans s _ _ (s.setAxis_only n _) (State.offer_only _ n _ es).onlyAxis)
          (State.triggerEvents_only _ _).onlyAxis
      · exact s.faultAxis_only n _ _

theorem State.sampleAB_only (s : State) (n : AxisId) (es : List EntryId) (cs : List ChannelId) :
    OnlyAxis s (s.sampleAB n es cs) := by
  unfold State.sampleAB
  exact OnlyAxis.trans s _ _ (s.setAxis_only n _) (State.applyDecoded_only _ n _ es cs)

theorem State.sampleZ_only (s : State) (n : AxisId) (cs : List ChannelId) : OnlyAxis s (s.sampleZ n cs) := by
  unfold State.sampleZ
  dsimp only
  split
  · exact OnlyAxis.trans s _ _ (s.setAxis_only n _) (State.triggerEvents_only _ _).onlyAxis
  · exact s.setAxis_only n _

/-! ### A re-arm that stands (R122, log entry 10) -/

/-- After its sample the recognizer tells the level that was sampled (R122, R123). -/
theorem MarkUnit.sample_sampledLevel (m : MarkUnit) : m.sample.1.sampledLevel = m.line := by
  unfold MarkUnit.sample
  split <;> (try split) <;> simp_all [MarkUnit.sampledLevel]

/-- Before its sample is taken, the level of a tick is the one the line holds (R122). -/
theorem MarkUnit.tickLevel_of_notYet {m : MarkUnit} (h : m.sampled = .notYet) : m.tickLevel = m.line := if_pos h

/-- Once its sample is taken, the level of a tick is the one sampled (R122). -/
theorem MarkUnit.tickLevel_of_sampled {m : MarkUnit} (h : m.sampled ≠ .notYet) : m.tickLevel = m.sampledLevel := if_neg h

/-- Once a re-arm stands, no axis still to be sampled starts a pulse with the levels it shows. -/
theorem State.startsPulse_of_rearmStands {s : State} (h : s.rearmStands = true) (n : AxisId) : s.startsPulse n = false := by
  simp only [State.rearmStands, Bool.and_eq_true, List.all_eq_true, Bool.not_eq_true'] at h
  exact h.2 n (mem_allAxes n)

/-- A re-arm stands only once the executor has taken its request of the tick. -/
theorem State.rearmStands_of {s : State} (h : s.mark.sampled ≠ .rearmed ∨ s.executor.took = false) : s.rearmStands = false := by
  rcases h with h | h <;> simp [State.rearmStands, h]

/-- In a tick without a re-arm the recognizer is found as it is. -/
theorem State.recognizerShown_of {s : State} (h : s.mark.sampled ≠ .rearmed) : s.recognizerShown = s.mark.recognizer := by
  simp [State.recognizerShown, h]

end Sys2Proof.Machine
end

