-- ==== Sys2Proof/Laws/Executor.lean ====
section
/-! SUPPORT. What the executor can do with a request, and what a park and a close can change (R138, R147, R171 to R173). -/

namespace Sys2Proof.Machine

/-! ### The taking of a request -/

/-- A request found by the search waits at the head of its port's queue, and did not join in this tick (R171). -/
theorem State.searchRequest_some {s : State} {l : List PortId} {p : PortId} {f : Frame}
    (h : s.searchRequest l = some (p, f)) :
    p ∈ l ∧ ∃ rest, (s.port p).requests = { frame := f, joinedNow := false } :: rest := by
  induction l with
  | nil => cases h
  | cons q l ih =>
    unfold State.searchRequest at h
    split at h
    · next g hg =>
      cases h
      refine ⟨List.mem_cons_self, ?_⟩
      unfold Port.waitingRequest at hg
      split at hg
      · cases hg
      · next w rest hw =>
        split at hg
        · cases hg
        · next hj =>
          cases hg
          exact ⟨rest, by rw [hw]; cases w; simp_all⟩
    · exact ⟨List.mem_cons_of_mem _ (ih h).1, (ih h).2⟩

/-- The next request waits at the head of its port's queue (R171). -/
theorem State.nextRequest_some {s : State} {p : PortId} {f : Frame} (h : s.nextRequest = some (p, f)) :
    s.executor.took = false ∧ ∃ rest, (s.port p).requests = { frame := f, joinedNow := false } :: rest := by
  unfold State.nextRequest at h
  split at h
  · cases h
  · next ht =>
    split at h
    · cases h
    · next q g hs =>
      split at h
      · cases h
      · cases h
        exact ⟨by simpa using ht, (State.searchRequest_some hs).2⟩

/-- The next request is no DEVICE_RESET that would release the pulse whose edge this tick has given (R131, log entry 10). -/
theorem State.nextRequest_notBarred {s : State} {p : PortId} {f : Frame} (h : s.nextRequest = some (p, f)) :
    ¬(s.mark.sampled = .pulseEdge ∧ s.acceptsReset p f = true) := by
  unfold State.nextRequest at h
  split at h
  · cases h
  · split at h
    · cases h
    · split at h
      · cases h
      · next hb => cases h; exact hb

/-- A request that is not the next is not taken (log entry 1). -/
theorem executorTakes_of_not_next {s : State} {p : PortId} {f : Frame} (serve : Server)
    (h : s.nextRequest ≠ some (p, f)) : executorTakes p f serve s = s := if_neg h

/-- A refused request changes nothing but its queues and the executor (R172). -/
theorem executorTakes_of_error {s : State} {p : PortId} {f : Frame} {serve : Server} {code : ResultCode}
    (h : s.nextRequest = some (p, f)) (he : serve p f.payload (s.taken p) = .error code) :
    executorTakes p f serve s =
      (s.taken p).deposit p { command := f.command, tag := f.tag, result := code, payload := [] } := by
  simp only [executorTakes, h, if_true, he, deliver]

/-- An accepted request leaves the state its server gives, with its response deposited (R172), the line level of a TIME_READ open to
the end of the tick (log entry 14). -/
theorem executorTakes_of_ok {s t : State} {p : PortId} {f : Frame} {serve : Server} {payload : List Byte}
    (h : s.nextRequest = some (p, f)) (he : serve p f.payload (s.taken p) = .ok (payload, t)) :
    executorTakes p f serve s =
      t.deposit p { command := f.command, tag := f.tag, result := .ok, payload := payload,
                    levelOpen := decide (f.command = codeTimeRead) } := by
  simp only [executorTakes, h, if_true, he, deliver]

@[simp] theorem State.taken_port_same (s : State) (p : PortId) :
    (s.taken p).port p = { s.port p with requests := (s.port p).requests.tail } := by simp [State.taken]

theorem State.taken_port_ne (s : State) {p q : PortId} (h : q ≠ p) : (s.taken p).port q = s.port q := by
  simp [State.taken, State.setPort_port_ne, h]

@[simp] theorem State.taken_executor (s : State) (p : PortId) : (s.taken p).executor = { last := p, took := true } := rfl

/-- Taking a request changes the ports and the executor alone. -/
theorem State.taken_eq (s : State) (p : PortId) :
    s.taken p = { s with ports := (s.taken p).ports, executor := { last := p, took := true } } := rfl

@[simp] theorem State.deposit_port_same (s : State) (p : PortId) (r : Response) :
    (s.deposit p r).port p = { s.port p with responses := (s.port p).responses ++ [r] } := by simp [State.deposit]

theorem State.deposit_port_ne (s : State) {p q : PortId} (r : Response) (h : q ≠ p) : (s.deposit p r).port q = s.port q := by
  simp [State.deposit, State.setPort_port_ne, h]

/-- A deposit changes the ports alone. -/
theorem State.deposit_eq (s : State) (p : PortId) (r : Response) :
    s.deposit p r = { s with ports := (s.deposit p r).ports } := rfl

/-! ### The line level of a TIME_READ (R118, R122; log entry 14) -/

/-- Only an open answer takes a level. -/
theorem Response.withLevel_of_closed {r : Response} (h : r.levelOpen = false) (level : Level) : r.withLevel level = r := by
  simp [Response.withLevel, h]

@[simp] theorem Response.withLevel_levelOpen (r : Response) (level : Level) : (r.withLevel level).levelOpen = false := by
  unfold Response.withLevel
  split <;> simp_all

/-- The level takes the place of one byte. -/
@[simp] theorem Response.withLevel_payload_length (r : Response) (level : Level) :
    (r.withLevel level).payload.length = r.payload.length := by
  unfold Response.withLevel
  split <;> simp

@[simp] theorem Port.withLevel_requests (q : Port) (level : Level) : (q.withLevel level).requests = q.requests := rfl

@[simp] theorem Port.withLevel_responses (q : Port) (level : Level) :
    (q.withLevel level).responses = q.responses.map (Response.withLevel level) := rfl

/-- The chosen response stays the one at the head of the queue (R163). -/
theorem Port.withLevel_chosen {q : Port} {level : Level} {t : Transaction} {r : Response}
    (h : ∀ u v, q.receive = .inTransaction u → u.chosen = some v → q.responses.head? = some v)
    (ht : (q.withLevel level).receive = .inTransaction t) (hr : t.chosen = some r) :
    (q.withLevel level).responses.head? = some r := by
  unfold Port.withLevel ReceiveState.withLevel at ht
  dsimp only at ht
  split at ht
  · cases ht
  · cases ht
  · next u hu =>
    cases ht
    obtain ⟨v, hv, rfl⟩ := Option.map_eq_some_iff.mp hr
    simp [List.head?_map, h u v hu hv]

/-! ### The discard of queues, and the expiry (R139, R170) -/

/-- A discard of the queues of a port changes that port, and uses one free value. -/
theorem State.discardQueues_port (s : State) (p q : PortId) (kept : Nat) :
    (s.discardQueues p kept).port q =
      if q = p then (s.port p).discardQueues kept (Config.begunBytes s.discards) else s.port q :=
  State.setPort_port s p _ q

@[simp] theorem State.discardQueues_discards (s : State) (p : PortId) (kept : Nat) :
    (s.discardQueues p kept).discards = s.discards + 1 := rfl

theorem State.discardQueues_eq (s : State) (p : PortId) (kept : Nat) :
    s.discardQueues p kept = { s with ports := (s.discardQueues p kept).ports, discards := s.discards + 1 } := rfl

/-- A DEVICE_RESET discards the queues of every port, but for the response deposited last on its own (R142). -/
theorem State.discardAll_port (s : State) (p q : PortId) :
    (s.discardAll p).port q =
      (s.port q).discardQueues (if q = p then 1 else 0) (Config.begunBytes (s.discards + q.val)) := by
  fin_cases q <;> simp [State.discardAll, allPorts, State.discardQueues_port]

/-- Discards in a row change the ports alone, and use one free value each. -/
theorem State.discardQueues_foldl_eq (kept : PortId → Nat) (l : List PortId) (s : State) :
    l.foldl (fun t q => t.discardQueues q (kept q)) s =
      { s with ports := (l.foldl (fun t q => t.discardQueues q (kept q)) s).ports, discards := s.discards + l.length } := by
  induction l generalizing s with
  | nil => rfl
  | cons q l ih =>
    rw [List.foldl_cons, ih, State.discardQueues_eq]
    simp only [List.length_cons, Nat.add_assoc, Nat.add_comm 1]

theorem State.discardAll_eq (s : State) (p : PortId) :
    s.discardAll p = { s with ports := (s.discardAll p).ports, discards := s.discards + 4 } :=
  State.discardQueues_foldl_eq (fun q => if q = p then 1 else 0) allPorts s

/-- An expiry that is not due changes nothing (log entry 1). -/
theorem State.takeExpiry_of_not_due {s : State} {p : PortId} (h : s.expiryDue p = false) : s.takeExpiry p = s := by
  simp [State.takeExpiry, h]

/-- An expiry that is due takes place, but for the ticks of log entry 10. -/
theorem State.takeExpiry_of_due {s : State} {p : PortId} (h : s.expiryDue p = true) (hb : s.expiryBarred p = false) :
    s.takeExpiry p = s.expire p := by simp [State.takeExpiry, h, hb]

/-- Expiries are barred only in a tick that has given the edge of the own pulse, before the executor's taking (log entry 10). -/
theorem State.expiryBarred_of {s : State} {p : PortId} (h : s.mark.sampled ≠ .pulseEdge ∨ s.executor.took = true) :
    s.expiryBarred p = false := by
  rcases h with h | h <;> simp [State.expiryBarred, h]

/-- Reloads are barred only in a tick that has given the edge of the own pulse (log entry 10). -/
theorem State.reloadBarred_of {s : State} {p : PortId} (h : s.mark.sampled ≠ .pulseEdge ∨ s.executor.took = true) :
    s.reloadBarred p = false := by
  rcases h with h | h <;> simp [State.reloadBarred, h]

/-- Once the executor has taken a request, no DEVICE_RESET is to come in the tick (R171). -/
theorem State.resetForced_of_took {s : State} (h : s.executor.took = true) : s.resetForced = false := by
  simp [State.resetForced, h]

/-! ### Steps 1 and 3 of the validation order (R173) -/

theorem sessionRequest_of_none {s : State} {p : PortId} {len : Nat} {body : PortId → Session → List Byte → State → Answer}
    (payload : List Byte) (h : s.session p = none) : sessionRequest len body p payload s = .error .noSession := by
  simp [sessionRequest, h]

theorem sessionRequest_of_length {s : State} {p : PortId} {ses : Session} {len : Nat}
    {body : PortId → Session → List Byte → State → Answer} {payload : List Byte} (h : s.session p = some ses)
    (hl : payload.length ≠ len) : sessionRequest len body p payload s = .error .badLength := by
  simp [sessionRequest, h, hl]

theorem sessionRequest_of_some {s : State} {p : PortId} {ses : Session} {len : Nat}
    {body : PortId → Session → List Byte → State → Answer} {payload : List Byte} (h : s.session p = some ses)
    (hl : payload.length = len) : sessionRequest len body p payload s = body p ses payload s := by
  simp [sessionRequest, h, hl]

/-- A check that holds lets the next one be made. -/
@[simp] theorem require_true_bind {α : Type} (code : ResultCode) (k : Unit → Checked α) :
    (require true code >>= k) = k () := rfl

/-- A check that fails refuses with its code. -/
@[simp] theorem require_false_bind {α : Type} (code : ResultCode) (k : Unit → Checked α) :
    (require false code >>= k) = .error code := rfl

/-! ### Parks and closes (R138, R147) -/

theorem State.park_only (s : State) (r : Resource) : OnlyPark s (s.park r) := by
  cases r with
  | entry e => exact (s.replaceEntry_only e _).onlyPark
  | axis _ => rfl
  | channel _ => rfl
  | gate _ => rfl
  | mark => rfl

/-- A resource given up changes the claims and what its park changes (R147). -/
theorem State.giveUp_only (s : State) (r : Resource) : OnlyPark s (s.giveUp r) :=
  OnlyPark.trans s _ _ (show OnlyPark s (s.setOwner r none) from rfl) (State.park_only _ r)

/-- A park leaves every owner as it is (R147). -/
theorem State.park_owner (s : State) (r k : Resource) : (s.park r).owner k = s.owner k := by
  cases r with
  | entry e =>
    have h := s.replaceEntry_only e (s.entry e).parked
    change (s.replaceEntry e (s.entry e).parked).owner k = s.owner k
    rw [h]
    rfl
  | axis _ => rfl
  | channel _ => rfl
  | gate _ => rfl
  | mark => rfl

/-- A resource given up has no owner, and the others keep theirs (R147). -/
theorem State.giveUp_owner (s : State) (r k : Resource) :
    (s.giveUp r).owner k = if k = r then none else s.owner k := by
  unfold State.giveUp
  rw [State.park_owner, State.setOwner_owner]

theorem State.giveUpOwned_only (p : PortId) (s : State) (r : Resource) : OnlyPark s (State.giveUpOwned p s r) := by
  unfold State.giveUpOwned
  split
  · exact s.giveUp_only r
  · exact OnlyPark.refl s

/-- A close takes the session away, and gives up what it owned (R138). -/
theorem State.closeSession_eq (s : State) (p : PortId) :
    s.closeSession p = (allResources.foldl (State.giveUpOwned p) s).setSession p none := rfl

theorem State.closeSession_fold_only (s : State) (p : PortId) :
    OnlyPark s (allResources.foldl (State.giveUpOwned p) s) :=
  foldl_reaches OnlyPark OnlyPark.refl OnlyPark.trans _ (State.giveUpOwned_only p) allResources s

theorem OnlyPark.session {s t : State} (h : OnlyPark s t) (q : PortId) : t.session q = s.session q := by
  unfold OnlyPark at h
  rw [h]
  rfl

theorem State.closeSession_session (s : State) (p q : PortId) :
    (s.closeSession p).session q = if q = p then none else s.session q := by
  rw [s.closeSession_eq, State.setSession_session, (s.closeSession_fold_only p).session]

theorem State.closeSession_ports (s : State) (p : PortId) : (s.closeSession p).ports = s.ports := by
  rw [s.closeSession_eq, State.setSession_ports, s.closeSession_fold_only p]

end Sys2Proof.Machine
end

