-- ==== Sys2Proof/Tests/Slice0.lean ====
section
/-! SUPPORT. Tests: the checks of WellFormed, the wire, at most two small ones a command with the values the spec states, and a
witness for every statement with hypotheses. -/

namespace Sys2Proof.Tests

set_option maxRecDepth 20000

open Sys2Proof Sys2Proof.Machine

/-! ### WellFormed refuses what no command carries -/

theorem test_wellFormed_order_twice : (Instr.trigLevelChange 0 .high { events := [1, 1], log := .asRequested }).wellFormed = false := by decide
theorem test_wellFormed_axis_order_twice : (Instr.axisLevelChange 0 (.ab .low .low [2, 2] .ascending)).wellFormed = false := by
  decide
theorem test_wellFormed_axis_channels_twice : (Instr.axisLevelChange 0 (.ab .low .low [] { events := [], log := { first := [.mark, .mark], later := 0 } })).wellFormed = false := by
  decide
theorem test_wellFormed_index_order_twice : (Instr.axisLevelChange 0 (.z .low { events := [4, 4], log := .asRequested })).wellFormed = false := by
  decide
theorem test_wellFormed_edge_order_twice : (Instr.recognisedEdge [5, 5] .asRequested).wellFormed = false := by
  decide
theorem test_wellFormed_edge_later : (Instr.recognisedEdge [] { first := [], later := 18 }).wellFormed = false := by decide
theorem test_wellFormed_step_order_twice :
    (Instr.burstStep { channel := 0, log := { first := [.trigger 0 1, .trigger 0 1], later := 0 } }).wellFormed = false := by decide
theorem test_wellFormed_payload_49 : (Instr.ping 0 0 (List.replicate 49 0)).wellFormed = false := by decide
theorem test_wellFormed_payload_48 : (Instr.ping 0 0 (List.replicate 48 0)).wellFormed = true := by decide
theorem test_wellFormed_unknown_names_request : (Instr.unknownCommand 0 0x03 0 []).wellFormed = false := by decide
theorem test_wellFormed_unknown_no_request : (Instr.unknownCommand 0 0x00 0 []).wellFormed = false := by decide
theorem test_wellFormed_unknown : (Instr.unknownCommand 0 0x99 0 []).wellFormed = true := by decide
theorem test_wellFormed_delivered_nothing : (Instr.responseDelivered 0 []).wellFormed = false := by decide

/-- The codes of section 10.4 are those of the request table. -/
theorem test_request_codes : requestTable.map Prod.fst = Config.requestCodes := by decide

/-- The check value of R167. -/
theorem test_crc_check_value : crc8 [0x31, 0x32, 0x33, 0x34, 0x35, 0x36, 0x37, 0x38, 0x39] = 0xF4 := by decide

/-- The status byte 8AH of R180: an open session, attention, two undelivered responses. -/
theorem test_status_byte :
    StatusByte.toByte { session := true, expired := false, frameErr := false, refused := false, attn := true, pending := 2 } =
      0x8A := by decide

/-- The record of R181: TC3 at burst index 2 with AX1 in modulo mode, 22 bytes, cause 03H, burst 02H, entry byte 41H. -/
theorem test_record_bytes :
    Record.bytes
        { seq := 2000, stamp := { tick := 1, epoch := 2 }, cause := .trigger 3 2
          values := [{ axis := 1, count := -1, turns := some 5, faulted := false }] } =
      [0, 0, 7, 0xD0, 2, 0, 0, 0, 0, 0, 1, 3, 2, 1, 0x41, 0xFF, 0xFF, 0xFF, 0xFF, 0xFF, 0, 5] := by decide

/-! ### Small states -/

/-- A session of rank 3 without an idle limit, as OPEN leaves it. -/
def opened : Session :=
  { rank := 3, idleLimit := 0, elapsed := 0, mask := BitVec.allOnes 11, records := EventRecords.empty, reader := none }

/-- Port 0 has a session. -/
def plain : State := { State.reset with sessions := Bank.write State.reset.sessions 0 (some opened) }

/-- Port 0 has a session that owns every resource. -/
def owning : State := { plain with claims := Vector.replicate 47 (some 0) }

/-- The state with a request of port 0 that the executor takes next. -/
def ask (s : State) (code : Byte) (payload : List Byte) : State :=
  { s with
    ports := Bank.write s.ports 0
      { Port.reset with receive := .idle,
                          requests := [{ frame := { command := code, tag := 7, payload := payload }, joinedNow := false }] }
    executor := { last := 3, took := false } }

/-- The state a command leaves. -/
def after (c : Instr) (s : State) : State :=
  match exec c s with
  | .next t => t
  | .fault _ => s
  | .refused _ => s

/-- The result and the payload that a request of port 0 is answered with. -/
def answer (c : Instr) (s : State) : Option (ResultCode × List Byte) :=
  ((after c s).port 0).responses.head?.map (fun r => (r.result, r.payload))

/-- A port in a transaction that shows a status byte with REFUSED, and has chosen the answer to a PING refused NO_SESSION. -/
def response : Response := { command := codePing, tag := 7, result := .noSession, payload := [] }

def transaction (shown : Bool) (incoming : List Byte) : Transaction :=
  { status := { session := false, expired := false, frameErr := false, refused := true, attn := false, pending := 1 }
    chosen := some response, shown := shown, incoming := incoming, gone := none }

def talking (shown : Bool) (incoming : List Byte) : State :=
  { State.reset with
    ports := Bank.write State.reset.ports 0
      { Port.reset with receive := .inTransaction (transaction shown incoming), responses := [response], refused := true } }

/-- An axis in QUAD4, its lines sampled low. -/
def lowLine : FilteredLine := { raw := .low, level := .low, run := 0, primed := true }
def counting : Axis := { Axis.reset with mode := .quad4, state := .counting, a := lowLine, b := lowLine, z := lowLine }

/-- Port 0 owns an axis 0 that counts, with an entry 0 ABOVE 0 on it, enabled, with its event flag and its MARK flag. -/
def watching : State :=
  { owning with
    axes := Bank.write owning.axes 0 counting
    entries := Bank.write owning.entries 0 { Entry.reset with kind := .above, enabled := true, event := true, markFlag := true } }

/-- Channel 0 in a state, on trigger line 0 rising, with a line sampled low. -/
def channelIn (state : ChannelState) : State :=
  { owning with
    lines := Bank.write owning.lines 0 { TrigLine.reset with line := lowLine }
    channels := Bank.write owning.channels 0
      { Channel.reset with config := { ChannelConfig.reset with source := .line 0 }, state := state } }

/-- Channels 5 and 6 of section 3.10: both on trigger line 0 rising, 5 ARMED, 6 WAITING for 5. -/
def sharing : State :=
  let on (prereqs : ChannelSet) : ChannelConfig := { ChannelConfig.reset with source := .line 0, prereqs := prereqs }
  { owning with
    lines := Bank.write owning.lines 0 { TrigLine.reset with line := lowLine }
    channels :=
      Bank.write (Bank.write owning.channels 5 { Channel.reset with config := on 0, state := .armed }) 6
        { Channel.reset with config := on 32, state := .waiting, outstanding := 32 } }

/-- Axis 0 counts, with entries 0 and 1 ABOVE 0 on it; channels 0 and 2 take the hits of entry 0, channel 1 those of entry 1, and
1 waits for 0, 2 for 1. -/
def chained : State :=
  let on (e : EntryId) (prereqs : ChannelSet) : ChannelConfig := { ChannelConfig.reset with source := .entry e, prereqs := prereqs }
  let above : Entry := { Entry.reset with kind := .above, enabled := true }
  { owning with
    axes := Bank.write owning.axes 0 counting
    entries := Bank.write (Bank.write owning.entries 0 above) 1 above
    channels :=
      Bank.write (Bank.write (Bank.write owning.channels 0 { Channel.reset with config := on 0 0, state := .armed })
        1 { Channel.reset with config := on 1 1, state := .waiting, outstanding := 1 })
        2 { Channel.reset with config := on 0 2, state := .waiting, outstanding := 2 } }

/-- Section 6.9: the fourth low sample is due, ARMED with preload 0, TC1 on trigger line 0 and TC4 on MARK, both ARMED and EVERY. -/
def aligning : State :=
  let on (source : Source) : ChannelConfig := { ChannelConfig.reset with source := source, mode := .every }
  { owning with
    time := { tick := 7000000, epoch := 2, align := .armed, preload := 0 }
    mark := { MarkUnit.reset with captureSet := 1, outside := .low, recognizer := .ready, lowRun := 3 }
    lines := Bank.write owning.lines 0 { TrigLine.reset with line := lowLine }
    channels :=
      Bank.write (Bank.write owning.channels 1 { Channel.reset with config := on (.line 0), state := .armed }) 4
        { Channel.reset with config := on .mark, state := .armed } }

/-- RECOGNIZER_REARM has been taken in this tick; axis 0 of `watching` is still to be sampled and shows `a`. -/
def rearmed (a : Level) : State :=
  { watching with
    axes := Bank.write owning.axes 0 { counting with a := { lowLine with raw := a } }
    mark := { MarkUnit.reset with recognizer := .ready, sampled := .rearmed } }

/-- Channel 0 with the last step of a burst of two due. -/
def stepping : State :=
  { owning with
    channels := Bank.write owning.channels 0
      { Channel.reset with config := { ChannelConfig.reset with burstCount := 2 }, state := .bursting, remaining := 1,
                           nextIndex := 1, countdown := 1, stepDue := true } }

/-- A log with one record, and a KEEP reader of port 0 at its tail. -/
def reading : State :=
  { owning with
    log := { records := [{ seq := 0, stamp := { tick := 0, epoch := 0 }, cause := .mark, values := [] }], head := 1, tail := 0
             drops := 0 }
    sessions := Bank.write owning.sessions 0
      (some { opened with reader := some { mode := .keep, cursor := 0, watermark := 1, level := true, lost := 0 } }) }

/-- A READY recognizer with `lows` low samples, another party holding the line, an armed alignment to tick 5. -/
def lowFor (lows : Nat) : State :=
  { owning with
    time := { tick := 9, epoch := 0, align := .armed, preload := 5 }
    mark := { MarkUnit.reset with outside := .low, recognizer := .ready, lowRun := lows } }

/-- The part's own MARK pulse, with its end due or not. -/
def pulsing (due : Bool) : State :=
  { owning with mark := { MarkUnit.reset with drive := .driving, remaining := 1, endDue := due } }

/-- A session with an idle limit of 1 ms and an idle timer. -/
def idleFor (ticks : Nat) : State :=
  { State.reset with sessions := Bank.write State.reset.sessions 0 (some { opened with idleLimit := 1, elapsed := ticks }) }

/-! ### Ports and time -/

theorem test_pinReset_closes : (after .pinReset owning).session 0 = none := by decide
theorem test_pinReset_blocks : ((after .pinReset (talking true [0])).port 0) = Port.reset := by decide
theorem test_portUnblock : ((after (.portUnblock 2) State.reset).port 2).receive = .idle := by decide
/-- Section 9.2: a session and nothing else gives 80H. -/
theorem test_transactionBegin :
    ((after (.transactionBegin 0) (ask plain codePing [])).port 0).outByte 0 = some 0x80 := by decide
theorem test_statusByteShifted : ((after (.statusByteShifted 0 0) (talking false [])).port 0).refused = false := by decide
/-- A response of five bytes is out after six. -/
theorem test_responseDelivered : ((after (.responseDelivered 0 [0, 0, 0, 0, 0]) (talking true [0])).port 0).responses = [] := by
  decide
theorem test_responseDelivered_early :
    ((after (.responseDelivered 0 [0, 0, 0, 0]) (talking true [0])).port 0).responses = [response] := by decide
/-- A frame of PING with tag 7: 03H, 07H, 00H and its CRC-8. -/
theorem test_transactionEnd :
    ((after (.transactionEnd 0 (Frame.bytes { command := 3, tag := 7, payload := [] })) (talking false [])).port 0).requests =
      [{ frame := { command := 3, tag := 7, payload := [] }, joinedNow := true }] := by decide
/-- A frame of three bytes is malformed (R167). -/
theorem test_transactionEnd_short : ((after (.transactionEnd 0 [3, 7, 0]) (talking false [])).port 0).frameErr = true := by
  decide
theorem test_unknownCommand : answer (.unknownCommand 0 0x99 7 []) (ask plain 0x99 []) = some (.unknown, []) := by decide
theorem test_unknownCommand_no_session :
    answer (.unknownCommand 0 0x99 7 []) (ask State.reset 0x99 []) = some (.noSession, []) := by decide
/-- An idle limit of 1 ms is reached after 10 000 ticks (R135). -/
theorem test_sessionExpiry : ((after (.sessionExpiry 0) (idleFor 10000)).port 0).expired = true := by decide
theorem test_sessionExpiry_early : (after (.sessionExpiry 0) (idleFor 9999)).session 0 ≠ none := by decide

/-! ### Sessions and claims -/

theorem test_open :
    answer (.openSession 0 7 [2, 1, 0xF4]) (ask State.reset codeOpen [2, 1, 0xF4]) = some (.ok, [0, 2, 1, 0xF4, 4]) := by
  decide
/-- R133: OPEN with rank 5 on a port with a session is OUT_OF_RANGE. -/
theorem test_open_order : answer (.openSession 0 7 [5, 0, 0]) (ask plain codeOpen [5, 0, 0]) = some (.outOfRange, []) := by
  decide
theorem test_close : answer (.closeSession 0 7 []) (ask plain codeClose []) = some (.ok, []) := by decide
theorem test_ping :
    answer (.ping 0 7 []) (ask owning codePing []) = some (.ok, [0, 3, 0, 0, 0xFF, 0xFF, 7, 0xFF, 8, 0, 47]) := by decide
/-- The 16 bytes of R182. -/
theorem test_deviceInfo :
    answer (.deviceInfo 0 7 []) (ask plain codeDeviceInfo []) =
      some (.ok, [0x19, 0x04, 1, 4, 6, 8, 8, 6, 24, 8, 47, 1, 0, 4, 48, 248]) := by decide
theorem test_deviceReset :
    answer (.deviceReset 0 7 []) (ask reading codeDeviceReset []) = some (.ok, [0, 0, 0, 0, 0, 0, 0, 0, 0, 0, 1]) := by decide
/-- R23: a capture of the tick that is requested before the DEVICE_RESET has consumed its seq, and is discarded with the log. -/
theorem test_deviceReset_underway :
    (after (.deviceReset 0 7 []) ((ask reading codeDeviceReset []).request { stamp := { tick := 0, epoch := 0 }, cause := .mark, values := [] })).log =
      { records := [], head := 2, tail := 2, drops := 0 } := by decide
/-- R170: a chosen response that is discarded is no longer shifted out; the response that is kept goes on. -/
theorem test_discard_cuts :
    ((({ Port.reset with receive := .inTransaction (transaction true [0]), responses := [response] }).discardQueues 0 2).receive,
      (({ Port.reset with receive := .inTransaction (transaction true [0]), responses := [response] }).discardQueues 1 2).receive) =
      (.inTransaction { transaction true [0] with chosen := none, gone := some (response, 2) }, .inTransaction (transaction true [0])) := by
  decide
/-- R170: discarded before the status byte is out, the response puts out no byte, however many the clock has begun. -/
theorem test_discard_before_the_status_byte (k begun : Nat) :
    (({ Port.reset with receive := .inTransaction (transaction false []), responses := [response] }).discardQueues 0 begun).outByte
      (k + 1) = some 0 := by
  simp [Port.discardQueues, ReceiveState.cutChosen, Port.outByte, Transaction.outByte, Transaction.sent, transaction, filler]
theorem test_claim : answer (.claim 0 7 [0, 2, 0]) (ask plain codeClaim [0, 2, 0]) = some (.ok, [1, 0]) := by decide
theorem test_claim_all : answer (.claim 0 7 [0x0F, 0, 0]) (ask plain codeClaim [0x0F, 0, 0]) = some (.badValue, []) := by
  decide
theorem test_release : (after (.release 0 7 [3, 7]) (ask owning codeRelease [3, 7])).owner (.gate 7) = none := by decide
/-- R177: port 0 with rank 3 is 83H. -/
theorem test_whoOwns : answer (.whoOwns 0 7 [4, 0]) (ask owning codeWhoOwns [4, 0]) = some (.ok, [4, 0, 0x83]) := by decide

/-! ### Axes -/

theorem test_axisSetup : answer (.axisSetup 0 7 [0, 3, 0, 2]) (ask owning codeAxisSetup [0, 3, 0, 2]) = some (.ok, [1]) := by
  decide
theorem test_axisSetup_mode : answer (.axisSetup 0 7 [0, 6, 0, 2]) (ask owning codeAxisSetup [0, 6, 0, 2]) = some (.badValue, []) := by
  decide
/-- R89: the level change of the tick of a setup is decoded under the new invert, and judged by the filter value before it. -/
theorem test_axisSetup_filter :
    let x := (after (.axisLevelChange 0 (.ab .high .low [] .ascending))
      (after (.axisSetup 0 7 [0, 3, 1, 5]) (ask watching codeAxisSetup [0, 3, 1, 5]))).axis 0
    x.count = -1 ∧ x.filter = 5 := by decide
theorem test_axisSpan :
    answer (.axisSpan 0 7 [0, 0, 0, 1, 104]) (ask owning codeAxisSpan [0, 0, 0, 1, 104]) =
      some (.ok, [0, 0, 1, 104, 0, 0, 0, 0, 0, 0, 0]) := by decide
theorem test_axisSpan_one : answer (.axisSpan 0 7 [0, 0, 0, 0, 1]) (ask owning codeAxisSpan [0, 0, 0, 0, 1]) = some (.outOfRange, []) := by
  decide
theorem test_axisPreset :
    ((after (.axisPreset 0 7 [0, 0xFF, 0xFF, 0xFF, 0xFF, 0xFE]) (ask owning codeAxisPreset [0, 0xFF, 0xFF, 0xFF, 0xFF, 0xFE])).axis
      0).count = -2 := by decide
theorem test_axisClearFault :
    answer (.axisClearFault 0 7 [0, 0, 0, 0, 0, 0]) (ask owning codeAxisClearFault [0, 0, 0, 0, 0, 0]) = some (.wrongState, []) := by
  decide
/-- A count of 3 000 000 000 in NARROW form is clipped to 7FFFFFFFH (R85); byte 9 is the count byte, with free bits. -/
theorem test_axisRead_clipped :
    (answer (.axisRead 0 7 [0, 1])
        (ask { owning with axes := Bank.write owning.axes 0 { counting with count := 3000000000 } } codeAxisRead [0, 1])).map
        (fun a => (a.1, a.2.eraseIdx 9)) =
      some (.ok, [3, 0, 0, 0, 0, 0, 0, 1, 0, 0x7F, 0xFF, 0xFF, 0xFF, 0]) := by decide
/-- R183: the count byte, bit 0 CLIPPED and bit 1 turns present, whatever its other bits. -/
theorem test_axisRead_countByte (t : Stamp) : (countByte t 0 true false) &&& 3 = 1 ∧ (countByte t 0 false true) &&& 3 = 2 := by
  unfold countByte
  generalize Config.countByteRest t.tick t.epoch 0 = rest
  revert rest
  decide
theorem test_snap_logged :
    answer (.snap 0 7 [2, 1, 1]) (ask plain codeSnap [2, 1, 1]) =
      some (.ok, [0, 0, 0, 0, 0, 0, 0, 1, 0, 0, 0, 0, 1, 1, 0, 0, 0, 0]) := by decide
/-- Without logging, an empty set gives 9 bytes (R183). -/
theorem test_snap_empty :
    answer (.snap 0 7 [0, 0, 0]) (ask plain codeSnap [0, 0, 0]) = some (.ok, [0, 0, 0, 0, 0, 0, 0, 0, 0]) := by decide
/-- R73: A alone, to a level that differs from B, is an up step. -/
theorem test_axisLevelChange : ((after (.axisLevelChange 0 (.ab .high .low [] .ascending)) watching).axis 0).count = 1 := by decide
/-- R74: a change of A and B together is a phase error. -/
theorem test_axisLevelChange_both :
    ((after (.axisLevelChange 0 (.ab .high .high [] .ascending)) watching).axis 0).cause = .phase := by decide

/-! ### Compare entries and gates -/

/-- R95: INSIDE with a greater than b on a linear axis. -/
theorem test_cmpSetup_window :
    answer (.cmpSetup 0 7 [0, 0, 3, 0, 0, 0, 1, 94, 0, 0, 0, 0, 10, 1, 0])
        (ask owning codeCmpSetup [0, 0, 3, 0, 0, 0, 1, 94, 0, 0, 0, 0, 10, 1, 0]) = some (.badValue, []) := by decide
/-- R93: a wrapping window on span 360 holds 355; enabling makes no hit. -/
theorem test_cmpEnable :
    answer (.cmpEnable 0 7 [0])
        (ask { owning with
                axes := Bank.write owning.axes 0 { counting with span := 360, count := 355 }
                entries := Bank.write owning.entries 0 { Entry.reset with kind := .inside, a := 350, b := 10 } } codeCmpEnable [0]) =
      some (.ok, [1]) := by decide
theorem test_cmpDisable : ((after (.cmpDisable 0 7 [0]) (ask watching codeCmpDisable [0])).entry 0).enabled = false := by decide
theorem test_cmpStatus :
    (answer (.cmpStatus 0 7 [0]) (ask watching codeCmpStatus [0])).map (fun a => a.2) =
      some [0, 1, 0, 0, 0, 0, 0, 0, 0, 0, 0, 0, 1, 1, 1, 0, 0, 0, 0, 0, 0, 0, 0, 0, 0, 0] := by decide
/-- R100: the step that turns met true is one hit, and its MARK flag starts a pulse of 8 ticks. -/
theorem test_hit : ((after (.axisLevelChange 0 (.ab .high .low [] .ascending)) watching).entry 0).hits = 1 := by decide
/-- R44, R63: one step makes two entries hit; the events of the two hits interleave, and a chain across them fires whole. -/
theorem test_hit_interleaved :
    allChannels.map (fun c => ((after (.axisLevelChange 0 (.ab .high .low [] .ascending)) chained).channel c).fires) =
      [1, 1, 1, 0, 0, 0, 0, 0] := by decide
theorem test_hit_pulse : (after (.axisLevelChange 0 (.ab .high .low [] .ascending)) watching).mark.remaining = 8 := by decide
theorem test_gateSetup :
    answer (.gateSetup 0 7 [1, 2, 1, 0, 0, 0, 1, 0, 5]) (ask owning codeGateSetup [1, 2, 1, 0, 0, 0, 1, 0, 5]) = some (.ok, [0]) := by
  decide
theorem test_gateSet : answer (.gateSet 0 7 [1, 1]) (ask owning codeGateSet [1, 1]) = some (.ok, [1]) := by decide
theorem test_gateStatus :
    answer (.gateStatus 0 7 [1]) (ask owning codeGateStatus [1]) = some (.ok, [0, 0, 0, 0, 0, 0, 0, 1, 0, 0, 0, 0, 0]) := by decide
theorem test_gatePulseEnd :
    ((after (.gatePulseEnd 0)
        { owning with gates := Bank.write owning.gates 0 { Gate.reset with mode := .pulse, remaining := 1, output := .active,
                                                                           endDue := true } }).gate 0).output = .inactive := by
  decide

/-! ### Trigger channels -/

/-- R9, R63, section 3.10 ('Step 1 in the other order'): the waiter takes the notice before its event, fires, and its record stands
in either order with that of the sender. -/
theorem test_trigLevelChange_log_order :
    (after (.trigLevelChange 0 .high { events := [5, 6], log := { first := [.trigger 6 0], later := 0 } }) sharing).log.records.map (fun r => r.cause) =
        [.trigger 6 0, .trigger 5 0] ∧
      (after (.trigLevelChange 0 .high { events := [5, 6], log := .asRequested }) sharing).log.records.map (fun r => r.cause) =
        [.trigger 5 0, .trigger 6 0] := by decide
/-- Section 3.10, step 1: the waiter takes its event before the notice, which is ignored and counted; it is then ARMED. -/
theorem test_trigLevelChange_waiting :
    ((after (.trigLevelChange 0 .high { events := [6, 5], log := .asRequested }) sharing).channel 6).ignored = 1 ∧
      ((after (.trigLevelChange 0 .high { events := [6, 5], log := .asRequested }) sharing).channel 6).state = .armed := by decide
theorem test_burstStep : ((after (.burstStep { channel := 0, log := .asRequested }) stepping).channel 0).state = .spent := by decide
theorem test_burstStep_record : (after (.burstStep { channel := 0, log := .asRequested }) stepping).log.records.map (fun r => r.cause) = [.trigger 0 1] := by decide
/-- R47: a prerequisite set that holds the channel itself. -/
theorem test_trigSetup_itself :
    answer (.trigSetup 0 7 [1, 4, 0, 0, 0, 0, 1, 0, 1, 2, 0]) (ask owning codeTrigSetup [1, 4, 0, 0, 0, 0, 1, 0, 1, 2, 0]) =
      some (.badValue, []) := by decide
theorem test_trigSetup :
    answer (.trigSetup 0 7 [1, 1, 5, 2, 63, 1, 127, 0, 1, 4, 1]) (ask owning codeTrigSetup [1, 1, 5, 2, 63, 1, 127, 0, 1, 4, 1]) =
      some (.ok, []) := by decide
theorem test_trigLineFilter :
    answer (.trigLineFilter 0 7 [7, 255]) (ask plain codeTrigLineFilter [7, 255]) = some (.ok, [255]) := by decide
theorem test_trigArm : answer (.trigArm 0 7 [0]) (ask owning codeTrigArm [0]) = some (.ok, [2]) := by decide
theorem test_trigDisarm : answer (.trigDisarm 0 7 [0]) (ask stepping codeTrigDisarm [0]) = some (.ok, [3, 1]) := by decide
theorem test_trigFire : answer (.trigFire 0 7 [0]) (ask (channelIn .armed) codeTrigFire [0]) = some (.ok, [1, 0, 0, 0, 0]) := by
  decide
theorem test_trigFire_disarmed : answer (.trigFire 0 7 [0]) (ask owning codeTrigFire [0]) = some (.wrongState, []) := by decide
theorem test_trigStatus :
    answer (.trigStatus 0 7 [0]) (ask plain codeTrigStatus [0]) =
      some (.ok, [4, 0, 0, 0, 0, 1, 0, 1, 0, 0, 0, 0, 0, 0, 0, 0, 0, 0, 0, 0]) := by decide

/-! ### The log and its readers -/

theorem test_logSubscribe :
    answer (.logSubscribe 0 7 [0, 1, 1, 0]) (ask plain codeLogSubscribe [0, 1, 1, 0]) =
      some (.ok, [0, 0, 0, 0, 0, 0, 0, 0, 0, 0, 0, 0]) := by decide
theorem test_logSubscribe_watermark :
    answer (.logSubscribe 0 7 [0, 1, 1, 1]) (ask plain codeLogSubscribe [0, 1, 1, 1]) = some (.outOfRange, []) := by decide
theorem test_logUnsubscribe :
    answer (.logUnsubscribe 0 7 []) (ask reading codeLogUnsubscribe []) = some (.ok, [0, 0, 0, 0, 0, 0]) := by decide
/-- A MARK record with an empty set is 14 bytes, cause 40H (R181). -/
theorem test_logFetch :
    answer (.logFetch 0 7 [0, 4]) (ask reading codeLogFetch [0, 4]) =
      some (.ok, [0, 0, 0, 0, 0, 0, 0, 1, 0, 0, 1, 1, 0, 0, 0, 0, 0, 0, 0, 0, 0, 0, 0, 0x40, 0, 0]) := by decide
theorem test_logRelease :
    answer (.logRelease 0 7 [0, 0, 0, 0]) (ask reading codeLogRelease [0, 0, 0, 0]) = some (.ok, [0, 0, 0, 0, 1, 0, 0, 0, 1]) := by
  decide
theorem test_logRelease_beyond :
    answer (.logRelease 0 7 [0, 0, 0, 1]) (ask reading codeLogRelease [0, 0, 0, 1]) = some (.outOfRange, []) := by decide
theorem test_logStatus :
    answer (.logStatus 0 7 []) (ask reading codeLogStatus []) =
      some (.ok, [0, 0, 0, 0, 0, 0, 0, 1, 0, 0, 1, 0, 0, 0, 0, 0, 0, 1, 0, 0, 1]) := by decide

/-! ### The timebase and MARK -/

theorem test_timeRead :
    answer (.timeRead 0 7 []) (ask plain codeTimeRead []) = some (.ok, [0, 0, 0, 0, 0, 0, 0, 0, 0, 0, 0, 0, 1, 1]) := by decide
/-- R122: a re-arm is reported once no pulse of the tick can undo it, and not while axis 0 is about to start one. -/
theorem test_timeRead_rearm :
    answer (.timeRead 0 7 []) (ask (rearmed .low) codeTimeRead []) = some (.ok, [0, 0, 0, 0, 0, 0, 0, 0, 0, 0, 0, 0, 1, 0]) ∧
      answer (.timeRead 0 7 []) (ask (rearmed .high) codeTimeRead []) = some (.ok, [0, 0, 0, 0, 0, 0, 0, 0, 0, 0, 0, 0, 1, 1]) := by
  decide
/-- R118, R122: the line level is that of the tick, high when the end of the pulse is due, low when an axis starts a pulse. -/
theorem test_timeRead_level :
    let read := fun s : State =>
      ((after .tickCountAdvance (after (.timeRead 0 7 []) (ask s codeTimeRead []))).port 0).responses.map (fun r => r.payload.getD 12 9)
    read (pulsing true) = [1] ∧ read (pulsing false) = [0] ∧ read (rearmed .low) = [1] ∧ read (rearmed .high) = [0] := by decide
theorem test_alignArm :
    answer (.alignArm 0 7 [0, 0, 0xFF, 0xFF, 0xFF, 0xFF, 0xFF, 0xFF]) (ask owning codeAlignArm [0, 0, 0xFF, 0xFF, 0xFF, 0xFF, 0xFF, 0xFF]) =
      some (.ok, [0xFF, 0xFF, 0xFF, 0xFF, 0xFF, 0xFF]) := by decide
theorem test_alignArm_beyond :
    answer (.alignArm 0 7 [0, 1, 0, 0, 0, 0, 0, 0]) (ask owning codeAlignArm [0, 1, 0, 0, 0, 0, 0, 0]) = some (.outOfRange, []) := by
  decide
theorem test_alignCancel : answer (.alignCancel 0 7 []) (ask (lowFor 0) codeAlignCancel []) = some (.ok, [1]) := by decide
theorem test_markSetup : answer (.markSetup 0 7 [64, 0]) (ask owning codeMarkSetup [64, 0]) = some (.badValue, []) := by decide
theorem test_markPulse :
    answer (.markPulse 0 7 []) (ask (pulsing false) codeMarkPulse []) = some (.markBusy, []) := by decide
theorem test_markPulse_starts : (after (.markPulse 0 7 []) (ask plain codeMarkPulse [])).mark.line = .low := by decide
theorem test_markPulseEnd : (after .markPulseEnd (pulsing true)).mark.drive = .idle := by decide
/-- R120, R124: the fourth low sample aligns an ARMED timebase. -/
theorem test_recognisedEdge :
    (after (.recognisedEdge [] .asRequested) (lowFor 3)).time = { tick := 5, epoch := 1, align := .idle, preload := 0 } := by decide
/-- Section 6.9 (R9). 'Had TC1's trigger event been taken after the edge', its record has the stamp of the preload and can stand before
those of the edge; with the event before the edge, its record of the old epoch can stand between them. -/
theorem test_recognisedEdge_log_order :
    (after (.trigLevelChange 0 .high { events := [], log := { first := [.trigger 1 0, .trigger 4 0], later := 0 } })
        (after (.recognisedEdge [] { first := [], later := 2 }) aligning)).log.records.map (fun r => (r.cause, r.stamp.epoch)) =
        [(.trigger 1 0, 3), (.trigger 4 0, 3), (.mark, 3)] ∧
      (after (.recognisedEdge [] { first := [.mark, .trigger 1 0], later := 0 })
        (after (.trigLevelChange 0 .high { events := [], log := { first := [], later := 1 } }) aligning)).log.records.map
          (fun r => (r.cause, r.stamp.epoch)) = [(.mark, 3), (.trigger 1 0, 2), (.trigger 4 0, 3)] := by decide
theorem test_recognizerRearm :
    (after .recognizerRearm { owning with mark := { MarkUnit.reset with highRun := 3 } }).mark.recognizer = .ready := by decide
theorem test_markLineChange : (after (.markLineChange .low) State.reset).mark.line = .low := by decide
/-- The tick count wraps without a change of epoch (R116). -/
theorem test_tickCountAdvance :
    (after .tickCountAdvance { State.reset with time := { Timebase.reset with tick := BitVec.allOnes 48 } }).time =
      Timebase.reset := by decide

/-! ### Events -/

theorem test_eventMask : answer (.eventMask 0 7 [0, 1]) (ask plain codeEventMask [0, 1]) = some (.ok, [0, 1, 0]) := by decide
theorem test_eventMask_beyond : answer (.eventMask 0 7 [8, 0]) (ask plain codeEventMask [8, 0]) = some (.badValue, []) := by
  decide
theorem test_eventRead :
    answer (.eventRead 0 7 []) (ask plain codeEventRead []) = some (.ok, [7, 0xFF, 0] ++ List.replicate 26 0) := by decide
/-- An EVENT_ACK that names CMP_HIT and CLAIM_LOST returns 15 bytes (R188). -/
theorem test_eventAck :
    (answer (.eventAck 0 7 [1, 0x40]) (ask plain codeEventAck [1, 0x40])).map (fun a => a.2.length) = some 15 := by decide


/-! ### Witnesses: every statement with hypotheses has a state and operands that meet them together -/

/-- The request that `ask` puts in front is the next one. -/
theorem ask_next (s : State) (code : Byte) (payload : List Byte) (h : s.mark.sampled = .notYet) :
    (ask s code payload).nextRequest = some (0, { command := code, tag := 7, payload := payload }) := by
  simp [ask, State.nextRequest, portRotation, State.searchRequest, State.port, Port.waitingRequest, h]

theorem owning_gatesOk (code : Byte) (payload : List Byte) : (ask owning code payload).gatesOk := by
  intro g
  simp [ask, owning, plain, State.reset, State.gate, Gate.ok, Gate.reset, State.gateLevel]

theorem owning_ownersOpen (code : Byte) (payload : List Byte) : (ask owning code payload).ownersOpen := by
  intro r p h
  have : p = 0 := by simpa [ask, owning, State.owner, eq_comm] using h
  subst this
  rfl

theorem witness_StepTakesFrontCommand :
    { State.reset with pending := [.markPulseEnd] }.pending = Instr.markPulseEnd :: [] ∧ State.reset.pending = [] := ⟨rfl, rfl⟩

/-- The states for the invariants: a command in front of a part with a log, a reader, an owner of everything and a request. -/
def busy : State := { ask reading codeLogFetch [0, 4] with pending := [.logFetch 0 7 [0, 4]] }

theorem busy_steps : step busy = .next (after (.logFetch 0 7 [0, 4]) (ask reading codeLogFetch [0, 4])) := rfl

theorem witness_StepKeepsTheLogWindow : busy.log.ok ∧ ∃ t, step busy = .next t :=
  ⟨⟨rfl, by decide, ⟨rfl, trivial⟩, by decide⟩, _, busy_steps⟩

theorem witness_StepKeepsReadersInTheWindow : busy.log.ok ∧ busy.readersOk ∧ ∃ t, step busy = .next t := by
  refine ⟨witness_StepKeepsTheLogWindow.1, ?_, _, busy_steps⟩
  intro p r h
  have key : ∀ p, busy.reader p = if p = 0 then some { mode := .keep, cursor := 0, watermark := 1, level := true, lost := 0 } else none := by
    decide
  rw [key] at h
  split at h
  · cases h
    exact ⟨by decide, by decide, by decide, by decide, by decide, by decide⟩
  · cases h

theorem witness_StepKeepsChannelsInTheirStates : stepping.channelsOk ∧ ∃ t, step { stepping with pending := [.burstStep { channel := 0, log := .asRequested }] } = .next t := by
  refine ⟨?_, _, rfl⟩
  intro c
  fin_cases c <;>
    exact ⟨⟨by decide, by decide, by decide, by decide, by decide⟩, by decide, by decide, by decide, by decide, by decide, by decide⟩

theorem witness_StepKeepsAxesInRange :
    watching.axesOk ∧ ∃ t, step { watching with pending := [.axisLevelChange 0 (.ab .high .low [] .ascending)] } = .next t := by
  refine ⟨?_, _, rfl⟩
  intro n
  fin_cases n <;> exact ⟨by decide, by decide, by decide, by decide, by decide, by decide, by decide, by decide⟩

theorem witness_StepKeepsMetEqualToTheCondition :
    watching.entriesOk ∧ ∃ t, step { watching with pending := [.axisLevelChange 0 (.ab .high .low [] .ascending)] } = .next t := by
  refine ⟨?_, _, rfl⟩
  intro e
  fin_cases e <;> exact ⟨by decide, by decide, by decide, by decide, by decide⟩

theorem witness_StepKeepsGateOutputsRight :
    (ask owning codeGateSet [1, 1]).gatesOk ∧
      ∃ t, step { ask owning codeGateSet [1, 1] with pending := [.gateSet 0 7 [1, 1]] } = .next t :=
  ⟨owning_gatesOk _ _, _, rfl⟩

theorem witness_StepKeepsMarkUnitAndPreload :
    ((lowFor 3).mark.ok ∧ (lowFor 3).time.ok) ∧ ∃ t, step { lowFor 3 with pending := [.recognisedEdge [] .asRequested] } = .next t :=
  ⟨⟨⟨by decide, by decide, by decide, by decide, by decide⟩, fun h => by cases h⟩, _, rfl⟩

theorem witness_StepKeepsRanksAndOwners :
    ((ask owning codeClose []).ranksDistinct ∧ (ask owning codeClose []).ownersOpen) ∧
      ∃ t, step { ask owning codeClose [] with pending := [.closeSession 0 7 []] } = .next t := by
  refine ⟨⟨?_, owning_ownersOpen _ _⟩, _, rfl⟩
  have key : ∀ p, (ask owning codeClose []).session p = if p = 0 then some opened else none := by decide
  intro p q a b hp hq _
  rw [key] at hp hq
  split at hp
  · split at hq
    · next h k => exact h.trans k.symm
    · cases hq
  · cases hp

theorem witness_StepKeepsIdleTimersBelowTheLimit :
    (idleFor 9999).timersOk ∧ ∃ t, step { idleFor 9999 with pending := [.tickCountAdvance] } = .next t := by
  refine ⟨?_, _, rfl⟩
  have key : ∀ p, (idleFor 9999).session p = if p = 0 then some { opened with idleLimit := 1, elapsed := 9999 } else none := by
    decide
  intro p ses h
  rw [key] at h
  split at h
  · cases h; decide
  · cases h

theorem witness_StepKeepsEventRecordsExact :
    busy.recordsOk ∧ ∃ t, step busy = .next t := by
  refine ⟨?_, _, busy_steps⟩
  have key : ∀ p, (busy.session p).map Session.records = if p = 0 then some EventRecords.empty else none := by decide
  have empty : EventRecords.empty.ok :=
    ⟨fun k => by cases k <;> decide, by decide, by decide, by decide, by decide, by decide, by decide⟩
  intro p ses h
  have hk := key p
  rw [h, Option.map_some] at hk
  split at hk
  · rw [Option.some.inj hk]; exact empty
  · cases hk

theorem witness_StepKeepsUnownedResourcesParked :
    (ask plain codeClaim [0, 2, 0]).unownedParked ∧
      ∃ t, step { ask plain codeClaim [0, 2, 0] with pending := [.claim 0 7 [0, 2, 0]] } = .next t :=
  ⟨⟨by decide, by decide, by decide, by decide⟩, _, rfl⟩

theorem witness_StepKeepsPortsWithinFour :
    (talking true [0]).portsOk ∧
      ∃ t, step { talking true [0] with pending := [.responseDelivered 0 [0, 0, 0, 0, 0]] } = .next t := by
  refine ⟨?_, _, rfl⟩
  intro p
  fin_cases p
  · exact ⟨by decide, by intro t r ht hr; cases ht; cases hr; rfl⟩
  all_goals exact ⟨by decide, by intro t r ht _; cases ht⟩

/-- R122: the re-arm that a TIME_READ of the tick has reported stands, and levels that would start a pulse come after the sample. -/
theorem witness_AxisLevelsAreDecodedOnceATick_rearm :
    let s := after (.timeRead 0 7 []) (ask (rearmed .low) codeTimeRead [])
    s.rearmStands = true ∧ (s.axis 0).sampledAB = false ∧ (s.setAxis 0 ((s.axis 0).show .high .low)).startsPulse 0 = true ∧
      (after (.axisLevelChange 0 (.ab .high .low [] .ascending)) s).mark = s.mark := by decide

/-- The two captures of section 3.10 in the other order, from different causes, of which one may stay under way. -/
theorem witness_LineChangesAreTriggerEvents :
    let base := sharing.setLine 0 { sharing.trigLine 0 with line := { lowLine with raw := .high, level := .high }, sampled := true }
    let u := [5, 6].foldl State.triggerEvent base
    (([u.channelRequest 6 0] ++ [u.channelRequest 5 0]).map Capture.cause).Nodup ∧
      u.arrived [u.channelRequest 6 0] [u.channelRequest 5 0] (u.arrive [u.channelRequest 6 0] [u.channelRequest 5 0]) :=
  ⟨by decide, by decide, rfl⟩

theorem witness_TimeReadAndAlignmentRequests_rearm :
    (rearmed .high).mark.sampled = .rearmed ∧ ((ask (rearmed .high) codeTimeRead []).taken 0).startsPulse 0 = true := by decide

theorem witness_OwnersChangeOnlyByTheseCommands :
    exec (.release 0 7 [3, 7]) (ask owning codeRelease [3, 7]) = .next (after (.release 0 7 [3, 7]) (ask owning codeRelease [3, 7])) ∧
      (after (.release 0 7 [3, 7]) (ask owning codeRelease [3, 7])).owner (.gate 7) ≠ (ask owning codeRelease [3, 7]).owner (.gate 7) :=
  ⟨rfl, by decide⟩

/-- A log with `count` records held, and the KEEP reader of `reading` at `cursor`. -/
def filled (count cursor : Seq) : State :=
  { owning with
    log := { records := [], head := count, tail := 0, drops := 0 }
    sessions := Bank.write owning.sessions 0
      (some { opened with reader := some { mode := .keep, cursor := cursor, watermark := 1, level := true, lost := 0 } }) }

theorem witness_CaptureIsWritten : (filled 255 0).log.held = 255 := by decide

theorem witness_CaptureIsDropped :
    256 ≤ (filled 256 0).log.held ∧
      ∃ p r, (filled 256 0).reader p = some r ∧ r.mode = .keep ∧ r.cursor = (filled 256 0).log.tail :=
  ⟨by decide, 0, _, rfl, rfl, rfl⟩

theorem witness_CaptureEvicts :
    256 ≤ (filled 256 1).log.held ∧
      ¬∃ p r, (filled 256 1).reader p = some r ∧ r.mode = .keep ∧ r.cursor = (filled 256 1).log.tail := by
  refine ⟨by decide, ?_⟩
  have key : ∀ p, (filled 256 1).reader p = if p = 0 then some { mode := .keep, cursor := 1, watermark := 1, level := true, lost := 0 } else none := by
    decide
  rintro ⟨p, r, h, -, hc⟩
  rw [key] at h
  split at h
  · cases h; revert hc; decide
  · cases h

theorem witness_ExecutorTakesInRotation :
    requestOf (.ping 0 7 []) = some (0, { command := codePing, tag := 7, payload := [] }) ∧
      (Instr.ping 0 7 []).wellFormed = true ∧
      (ask plain codePing []).nextRequest = some (0, { command := codePing, tag := 7, payload := [] }) ∧
      State.reset.nextRequest ≠ some (0, { command := codePing, tag := 7, payload := [] }) :=
  ⟨rfl, rfl, ask_next _ _ _ rfl, by decide⟩

theorem witness_RequestsAreValidated_no_session :
    requestOf (.ping 0 7 []) = some (0, { command := codePing, tag := 7, payload := [] }) ∧
      (Instr.ping 0 7 []).wellFormed = true ∧
      (ask State.reset codePing []).nextRequest = some (0, { command := codePing, tag := 7, payload := [] }) ∧
      codePing ≠ codeOpen ∧ (ask State.reset codePing []).session 0 = none :=
  ⟨rfl, rfl, ask_next _ _ _ rfl, by decide, rfl⟩

theorem witness_RequestsAreValidated_unknown :
    requestOf (.unknownCommand 0 0x99 7 []) = some (0, { command := 0x99, tag := 7, payload := [] }) ∧
      (Instr.unknownCommand 0 0x99 7 []).wellFormed = true ∧
      (ask plain 0x99 []).nextRequest = some (0, { command := 0x99, tag := 7, payload := [] }) ∧
      (ask plain 0x99 []).session 0 ≠ none ∧ payloadLength 0x99 = none :=
  ⟨rfl, by decide, ask_next _ _ _ rfl, by decide, by decide⟩

theorem witness_RequestsAreValidated_length :
    requestOf (.openSession 0 7 [0, 0]) = some (0, { command := codeOpen, tag := 7, payload := [0, 0] }) ∧
      (Instr.openSession 0 7 [0, 0]).wellFormed = true ∧
      (ask plain codeOpen [0, 0]).nextRequest = some (0, { command := codeOpen, tag := 7, payload := [0, 0] }) ∧
      payloadLength codeOpen = some 3 ∧ [(0 : Byte), 0].length ≠ 3 :=
  ⟨rfl, rfl, ask_next _ _ _ rfl, by decide, by decide⟩

theorem witness_PortUnblockAndTransactionBegin :
    (State.reset.port 0).receive = .blocked ∧ (State.reset.port 0).receive ≠ .idle ∧
      ((ask plain codePing []).port 0).receive = .idle := by decide

theorem witness_StatusByteClearsTheFlagsItCarried :
    ((talking false []).port 0).receive = .inTransaction (transaction false []) ∧
      ∀ tr, (State.reset.port 0).receive ≠ .inTransaction tr := ⟨rfl, fun _ h => by cases h⟩

theorem witness_DeliveryRemovesTheHeadResponse :
    ((talking true [0]).port 0).receive = .inTransaction (transaction true [0]) ∧
      (transaction true [0]).chosen = some response ∧ (transaction true [0]).shown = true ∧
      ((transaction true [0]).incoming ++ [0, 0, 0, 0, 0]).length = 6 + response.payload.length :=
  ⟨rfl, rfl, rfl, rfl⟩

theorem witness_DeliveryRemovesTheHeadResponse_early :
    ∀ tr r, ((talking true [0]).port 0).receive = .inTransaction tr → tr.chosen = some r →
      tr.shown = false ∨ (tr.incoming ++ [0, 0, 0, 0]).length ≠ 6 + r.payload.length := by
  intro tr r h k
  have : transaction true [0] = tr := ReceiveState.inTransaction.inj h
  subst this
  cases k
  exact .inr (by decide)

theorem witness_TransactionEndAcceptsOrDiscardsTheFrame :
    ((talking false []).port 0).receive = .inTransaction (transaction false []) ∧
      ∀ tr, (State.reset.port 0).receive ≠ .inTransaction tr := ⟨rfl, fun _ h => by cases h⟩

theorem witness_OpenCreatesASession :
    (ask State.reset codeOpen [3, 0, 0]).nextRequest = some (0, { command := codeOpen, tag := 7, payload := [3, 0, 0] }) :=
  ask_next _ _ _ rfl

theorem witness_CloseEndsTheSessionAndParks :
    ((ask owning codeClose []).nextRequest = some (0, { command := codeClose, tag := 7, payload := [] }) ∧
        (ask owning codeClose []).session 0 = some opened ∧ (ask owning codeClose []).gatesOk) :=
  ⟨ask_next _ _ _ rfl, rfl, owning_gatesOk _ _⟩

theorem witness_PingAndDeviceInfoReport :
    ((ask owning codePing []).nextRequest = some (0, { command := codePing, tag := 7, payload := [] }) ∧
        (ask owning codePing []).session 0 = some opened) ∧
      ((ask owning codeDeviceInfo []).nextRequest = some (0, { command := codeDeviceInfo, tag := 7, payload := [] }) ∧
        (ask owning codeDeviceInfo []).session 0 = some opened) :=
  ⟨⟨ask_next _ _ _ rfl, rfl⟩, ⟨ask_next _ _ _ rfl, rfl⟩⟩

theorem witness_DeviceResetReturnsTheBlocks :
    ((ask owning codeDeviceReset []).nextRequest = some (0, { command := codeDeviceReset, tag := 7, payload := [] }) ∧
        (ask owning codeDeviceReset []).session 0 = some opened ∧ (ask owning codeDeviceReset []).ownersOpen) :=
  ⟨ask_next _ _ _ rfl, rfl, owning_ownersOpen _ _⟩

theorem witness_ClaimGrantsPreemptsOrHolds :
    ((ask owning codeClaim [0, 2, 0]).nextRequest = some (0, { command := codeClaim, tag := 7, payload := [0, 2, 0] }) ∧
        (ask owning codeClaim [0, 2, 0]).session 0 = some opened ∧ (ask owning codeClaim [0, 2, 0]).ownersOpen) ∧
      ((ask owning codeClaim [5, 0, 0]).nextRequest = some (0, { command := codeClaim, tag := 7, payload := [5, 0, 0] }) ∧
        (ask owning codeClaim [5, 0, 0]).session 0 = some opened ∧ (ask owning codeClaim [5, 0, 0]).ownersOpen) :=
  ⟨⟨ask_next _ _ _ rfl, rfl, owning_ownersOpen _ _⟩, ⟨ask_next _ _ _ rfl, rfl, owning_ownersOpen _ _⟩⟩

theorem witness_ReleaseParksAndWhoOwnsReports :
    ((ask owning codeRelease [3, 7]).nextRequest = some (0, { command := codeRelease, tag := 7, payload := [3, 7] }) ∧
        (ask owning codeRelease [3, 7]).session 0 = some opened ∧ (ask owning codeRelease [3, 7]).gatesOk) ∧
      ((ask owning codeWhoOwns [4, 0]).nextRequest = some (0, { command := codeWhoOwns, tag := 7, payload := [4, 0] }) ∧
        (ask owning codeWhoOwns [4, 0]).session 0 = some opened ∧ (ask owning codeWhoOwns [4, 0]).gatesOk) :=
  ⟨⟨ask_next _ _ _ rfl, rfl, owning_gatesOk _ _⟩, ⟨ask_next _ _ _ rfl, rfl, owning_gatesOk _ _⟩⟩

theorem witness_AxisSetupSetsModeAndState :
    ((ask owning codeAxisSetup [0, 3, 0, 2]).nextRequest = some (0, { command := codeAxisSetup, tag := 7, payload := [0, 3, 0, 2] }) ∧
        (ask owning codeAxisSetup [0, 3, 0, 2]).session 0 = some opened) :=
  ⟨ask_next _ _ _ rfl, rfl⟩

theorem witness_AxisSpanKeepsTheCount :
    ((ask owning codeAxisSpan [0, 0, 0, 1, 104]).nextRequest = some (0, { command := codeAxisSpan, tag := 7, payload := [0, 0, 0, 1, 104] }) ∧
        (ask owning codeAxisSpan [0, 0, 0, 1, 104]).session 0 = some opened ∧ (ask owning codeAxisSpan [0, 0, 0, 1, 104]).gatesOk) :=
  ⟨ask_next _ _ _ rfl, rfl, owning_gatesOk _ _⟩

theorem witness_AxisPresetAndClearFaultSetTheCount :
    ((ask owning codeAxisPreset (0 :: [0xFF, 0xFF, 0xFF, 0xFF, 0xFE])).nextRequest = some (0, { command := codeAxisPreset, tag := 7, payload := 0 :: [0xFF, 0xFF, 0xFF, 0xFF, 0xFE] }) ∧
        (ask owning codeAxisPreset (0 :: [0xFF, 0xFF, 0xFF, 0xFF, 0xFE])).session 0 = some opened ∧ (ask owning codeAxisPreset (0 :: [0xFF, 0xFF, 0xFF, 0xFF, 0xFE])).gatesOk) ∧
      ((ask owning codeAxisClearFault (0 :: [0, 0, 0, 0, 0])).nextRequest = some (0, { command := codeAxisClearFault, tag := 7, payload := 0 :: [0, 0, 0, 0, 0] }) ∧
        (ask owning codeAxisClearFault (0 :: [0, 0, 0, 0, 0])).session 0 = some opened ∧ (ask owning codeAxisClearFault (0 :: [0, 0, 0, 0, 0])).gatesOk) :=
  ⟨⟨ask_next _ _ _ rfl, rfl, owning_gatesOk _ _⟩, ⟨ask_next _ _ _ rfl, rfl, owning_gatesOk _ _⟩⟩

theorem witness_AxisReadReportsAndClips :
    ((ask owning codeAxisRead [0, 1]).nextRequest = some (0, { command := codeAxisRead, tag := 7, payload := [0, 1] }) ∧
        (ask owning codeAxisRead [0, 1]).session 0 = some opened) :=
  ⟨ask_next _ _ _ rfl, rfl⟩

theorem witness_SnapSamplesAndLogsWhenAsked :
    ((ask owning codeSnap [63, 1, 1]).nextRequest = some (0, { command := codeSnap, tag := 7, payload := [63, 1, 1] }) ∧
        (ask owning codeSnap [63, 1, 1]).session 0 = some opened) :=
  ⟨ask_next _ _ _ rfl, rfl⟩

theorem witness_CmpSetupChecksBoundsAndDisables :
    ((ask owning codeCmpSetup ([0, 0, 3] ++ [0, 0, 0, 0, 1] ++ [0, 0, 0, 0, 2] ++ [1, 0])).nextRequest = some (0, { command := codeCmpSetup, tag := 7, payload := [0, 0, 3] ++ [0, 0, 0, 0, 1] ++ [0, 0, 0, 0, 2] ++ [1, 0] }) ∧
        (ask owning codeCmpSetup ([0, 0, 3] ++ [0, 0, 0, 0, 1] ++ [0, 0, 0, 0, 2] ++ [1, 0])).session 0 = some opened ∧ (ask owning codeCmpSetup ([0, 0, 3] ++ [0, 0, 0, 0, 1] ++ [0, 0, 0, 0, 2] ++ [1, 0])).gatesOk) :=
  ⟨ask_next _ _ _ rfl, rfl, owning_gatesOk _ _⟩

theorem witness_CmpEnableAndDisableMoveMetQuietly :
    ((ask owning codeCmpEnable [23]).nextRequest = some (0, { command := codeCmpEnable, tag := 7, payload := [23] }) ∧
        (ask owning codeCmpEnable [23]).session 0 = some opened ∧ (ask owning codeCmpEnable [23]).gatesOk) ∧
      ((ask owning codeCmpDisable [23]).nextRequest = some (0, { command := codeCmpDisable, tag := 7, payload := [23] }) ∧
        (ask owning codeCmpDisable [23]).session 0 = some opened ∧ (ask owning codeCmpDisable [23]).gatesOk) :=
  ⟨⟨ask_next _ _ _ rfl, rfl, owning_gatesOk _ _⟩, ⟨ask_next _ _ _ rfl, rfl, owning_gatesOk _ _⟩⟩

theorem witness_GateSetupAndGateSetDriveTheOutput :
    ((ask owning codeGateSetup [1, 2, 1, 0, 0, 0, 1, 0, 5]).nextRequest = some (0, { command := codeGateSetup, tag := 7, payload := [1, 2, 1, 0, 0, 0, 1, 0, 5] }) ∧
        (ask owning codeGateSetup [1, 2, 1, 0, 0, 0, 1, 0, 5]).session 0 = some opened) ∧
      ((ask owning codeGateSet [1, 1]).nextRequest = some (0, { command := codeGateSet, tag := 7, payload := [1, 1] }) ∧
        (ask owning codeGateSet [1, 1]).session 0 = some opened) :=
  ⟨⟨ask_next _ _ _ rfl, rfl⟩, ⟨ask_next _ _ _ rfl, rfl⟩⟩

theorem witness_StatusRequestsReportAndChangeNothing :
    ((ask owning codeTrigStatus [7]).nextRequest = some (0, { command := codeTrigStatus, tag := 7, payload := [7] }) ∧
        (ask owning codeTrigStatus [7]).session 0 = some opened) ∧
      ((ask owning codeCmpStatus [23]).nextRequest = some (0, { command := codeCmpStatus, tag := 7, payload := [23] }) ∧
        (ask owning codeCmpStatus [23]).session 0 = some opened) ∧
      ((ask owning codeGateStatus [7]).nextRequest = some (0, { command := codeGateStatus, tag := 7, payload := [7] }) ∧
        (ask owning codeGateStatus [7]).session 0 = some opened) :=
  ⟨⟨ask_next _ _ _ rfl, rfl⟩, ⟨ask_next _ _ _ rfl, rfl⟩, ⟨ask_next _ _ _ rfl, rfl⟩⟩

theorem witness_ChannelsFireOnlyInArmed_request :
    ((ask owning codeTrigFire [7]).nextRequest = some (0, { command := codeTrigFire, tag := 7, payload := [7] }) ∧
        (ask owning codeTrigFire [7]).session 0 = some opened) :=
  ⟨ask_next _ _ _ rfl, rfl⟩

theorem witness_TrigSetupAndLineFilterAreChecked :
    ((ask owning codeTrigSetup [1, 1, 5, 2, 63, 1, 127, 0, 1, 4, 1]).nextRequest = some (0, { command := codeTrigSetup, tag := 7, payload := [1, 1, 5, 2, 63, 1, 127, 0, 1, 4, 1] }) ∧
        (ask owning codeTrigSetup [1, 1, 5, 2, 63, 1, 127, 0, 1, 4, 1]).session 0 = some opened) ∧
      ((ask owning codeTrigLineFilter [7, 255]).nextRequest = some (0, { command := codeTrigLineFilter, tag := 7, payload := [7, 255] }) ∧
        (ask owning codeTrigLineFilter [7, 255]).session 0 = some opened) :=
  ⟨⟨ask_next _ _ _ rfl, rfl⟩, ⟨ask_next _ _ _ rfl, rfl⟩⟩

theorem witness_TrigArmAndDisarmMoveTheChannel :
    ((ask owning codeTrigArm [7]).nextRequest = some (0, { command := codeTrigArm, tag := 7, payload := [7] }) ∧
        (ask owning codeTrigArm [7]).session 0 = some opened) ∧
      ((ask owning codeTrigDisarm [7]).nextRequest = some (0, { command := codeTrigDisarm, tag := 7, payload := [7] }) ∧
        (ask owning codeTrigDisarm [7]).session 0 = some opened) :=
  ⟨⟨ask_next _ _ _ rfl, rfl⟩, ⟨ask_next _ _ _ rfl, rfl⟩⟩

theorem witness_LogSubscribeAndUnsubscribeSetTheReader :
    ((ask owning codeLogSubscribe [0, 1, 1, 0]).nextRequest = some (0, { command := codeLogSubscribe, tag := 7, payload := [0, 1, 1, 0] }) ∧
        (ask owning codeLogSubscribe [0, 1, 1, 0]).session 0 = some opened) ∧
      ((ask owning codeLogUnsubscribe []).nextRequest = some (0, { command := codeLogUnsubscribe, tag := 7, payload := [] }) ∧
        (ask owning codeLogUnsubscribe []).session 0 = some opened) :=
  ⟨⟨ask_next _ _ _ rfl, rfl⟩, ⟨ask_next _ _ _ rfl, rfl⟩⟩

theorem witness_LogFetchReturnsTheLongestFittingRun :
    ((ask owning codeLogFetch [0, 4]).nextRequest = some (0, { command := codeLogFetch, tag := 7, payload := [0, 4] }) ∧
        (ask owning codeLogFetch [0, 4]).session 0 = some opened) :=
  ⟨ask_next _ _ _ rfl, rfl⟩

theorem witness_LogStatusReports :
    ((ask owning codeLogStatus []).nextRequest = some (0, { command := codeLogStatus, tag := 7, payload := [] }) ∧
        (ask owning codeLogStatus []).session 0 = some opened) :=
  ⟨ask_next _ _ _ rfl, rfl⟩

theorem witness_TimeReadAndAlignmentRequests :
    ((ask owning codeTimeRead []).nextRequest = some (0, { command := codeTimeRead, tag := 7, payload := [] }) ∧
        (ask owning codeTimeRead []).session 0 = some opened) ∧
      ((ask owning codeAlignArm [0, 0, 0xFF, 0xFF, 0xFF, 0xFF, 0xFF, 0xFF]).nextRequest = some (0, { command := codeAlignArm, tag := 7, payload := [0, 0, 0xFF, 0xFF, 0xFF, 0xFF, 0xFF, 0xFF] }) ∧
        (ask owning codeAlignArm [0, 0, 0xFF, 0xFF, 0xFF, 0xFF, 0xFF, 0xFF]).session 0 = some opened) ∧
      ((ask owning codeAlignCancel []).nextRequest = some (0, { command := codeAlignCancel, tag := 7, payload := [] }) ∧
        (ask owning codeAlignCancel []).session 0 = some opened) :=
  ⟨⟨ask_next _ _ _ rfl, rfl⟩, ⟨ask_next _ _ _ rfl, rfl⟩, ⟨ask_next _ _ _ rfl, rfl⟩⟩

theorem witness_MarkRequestsAndPulseEnds :
    ((ask owning codeMarkSetup [63, 1]).nextRequest = some (0, { command := codeMarkSetup, tag := 7, payload := [63, 1] }) ∧
        (ask owning codeMarkSetup [63, 1]).session 0 = some opened) ∧
      ((ask owning codeMarkPulse []).nextRequest = some (0, { command := codeMarkPulse, tag := 7, payload := [] }) ∧
        (ask owning codeMarkPulse []).session 0 = some opened) :=
  ⟨⟨ask_next _ _ _ rfl, rfl⟩, ⟨ask_next _ _ _ rfl, rfl⟩⟩

theorem witness_EventRequestsReportMaskAndClear :
    ((ask owning codeEventMask [7, 0xFF]).nextRequest = some (0, { command := codeEventMask, tag := 7, payload := [7, 0xFF] }) ∧
        (ask owning codeEventMask [7, 0xFF]).session 0 = some opened) ∧
      ((ask owning codeEventAck [7, 0xFF]).nextRequest = some (0, { command := codeEventAck, tag := 7, payload := [7, 0xFF] }) ∧
        (ask owning codeEventAck [7, 0xFF]).session 0 = some opened) ∧
      ((ask owning codeEventRead []).nextRequest = some (0, { command := codeEventRead, tag := 7, payload := [] }) ∧
        (ask owning codeEventRead []).session 0 = some opened) :=
  ⟨⟨ask_next _ _ _ rfl, rfl⟩, ⟨ask_next _ _ _ rfl, rfl⟩, ⟨ask_next _ _ _ rfl, rfl⟩⟩
theorem witness_ClaimGrantsPreemptsOrHolds_no_resource (r : Resource) : r.nameBytes ≠ [5, 0] := by
  cases r <;> simp [Resource.nameBytes]

theorem witness_ClaimGrantsPreemptsOrHolds_resource : (Resource.axis 2).nameBytes = [0, 2] := by decide

theorem witness_LogReleaseMovesTheCursor :
    (ask reading codeLogRelease [0, 0, 0, 0]).nextRequest =
        some (0, { command := codeLogRelease, tag := 7, payload := [0, 0, 0, 0] }) ∧
      ∃ ses r, (ask reading codeLogRelease [0, 0, 0, 0]).session 0 = some ses ∧ ses.reader = some r ∧ r.ok reading.log :=
  ⟨ask_next _ _ _ rfl, _, _, rfl, rfl, by decide, by decide, by decide, by decide, by decide, by decide⟩

/-- A READY recognizer with three low samples of the part's own pulse. -/
def lowOwn : State :=
  { owning with mark := { MarkUnit.reset with drive := .driving, remaining := 5, recognizer := .ready, lowRun := 3 } }

theorem witness_ExpiryClosesAndDiscards :
    (idleFor 10000).gatesOk ∧ ∃ ses, (idleFor 10000).session 0 = some ses ∧ ses.idleLimit ≠ 0 ∧
      ses.idleLimit.toNat * 10000 ≤ ses.elapsed := by
  refine ⟨?_, _, rfl, by decide, by decide⟩
  intro g
  simp [idleFor, State.reset, State.gate, Gate.ok, Gate.reset, State.gateLevel]

/-- The edge of the own pulse has been given; the session of port 0 expires in this tick and has a RELEASE next; a DEVICE_RESET of
port 1 comes after it. -/
def edgeGiven (first : Frame) : State :=
  let expiring : Session := { opened with rank := 1, idleLimit := 1, elapsed := 10000 }
  { owning with
    sessions := Bank.write (Bank.write owning.sessions 0 (some expiring)) 1 (some opened)
    ports :=
      Bank.write
        (Bank.write owning.ports 0 { Port.reset with receive := .idle, requests := [{ frame := first, joinedNow := false }] }) 1
        { Port.reset with receive := .idle, requests :=
            [{ frame := { command := codeDeviceReset, tag := 1, payload := [] }, joinedNow := false }] }
    mark := { MarkUnit.reset with drive := .driving, remaining := 5, sampled := .pulseEdge } }

def releaseMark : Frame := { command := codeRelease, tag := 7, payload := [4, 0] }

/-- R140, R150, R171: after the edge the RELEASE is taken, then the expiry; the DEVICE_RESET of port 1 waits for the next tick. -/
theorem witness_ExpiryClosesAndDiscards_barred :
    (edgeGiven releaseMark).expiryBarred 0 = true ∧ (edgeGiven releaseMark).nextRequest = some (0, releaseMark) := by decide

theorem test_tickCountAdvance_edge :
    (after .tickCountAdvance (edgeGiven releaseMark)).session 0 = none ∧
      (after .tickCountAdvance (edgeGiven releaseMark)).session 1 = some opened := by decide

/-- R131, R140: the edge of the own pulse is due, with a DEVICE_RESET next that an expiry of this tick can discard. -/
def edgeDue : State :=
  { edgeGiven releaseMark with
    sessions := Bank.write owning.sessions 0 (some { opened with idleLimit := 1, elapsed := 10000 })
    ports := (ask owning codeDeviceReset []).ports
    mark := { MarkUnit.reset with drive := .driving, remaining := 5, recognizer := .ready, lowRun := 3 } }

theorem witness_MarkEdgesAndTheRecognizer_expiry :
    edgeDue.mark.sampled = .notYet ∧ edgeDue.mark.recognizer = .ready ∧ edgeDue.mark.lowRun = 3 ∧ edgeDue.mark.drive = .driving ∧
      edgeDue.mark.endDue = false ∧ edgeDue.nextRequest = some (0, { command := codeDeviceReset, tag := 7, payload := [] }) ∧
      edgeDue.resetForced = false := by decide

/-- R140: after that edge, a frame comes after the expiry that is due, not before it. -/
theorem witness_TransactionEndAcceptsOrDiscardsTheFrame_barred :
    State.reloadBarred { edgeDue with mark := (edgeGiven releaseMark).mark } 0 = true := by decide

/-- R131: with no expiry to discard it, the DEVICE_RESET releases the pulse in this tick, and the edge cannot be placed. -/
theorem witness_MarkEdgesAndTheRecognizer_reset :
    (ask lowOwn codeDeviceReset []).resetForced = true ∧ (ask lowOwn codeDeviceReset []).mark.outside = .high ∧
      (ask lowOwn codeDeviceReset []).acceptsReset 0 { command := codeDeviceReset, tag := 7, payload := [] } = true ∧
      (ask lowOwn codeDeviceReset []).expiryDue 0 = false := by decide

theorem witness_ExpiryClosesAndDiscards_early :
    ∃ ses, (idleFor 9999).session 0 = some ses ∧ ses.elapsed < ses.idleLimit.toNat * 10000 := ⟨_, rfl, by decide⟩

theorem witness_StepsMoveTheCountByOne_linear :
    counting.span = 0 ∧ { counting with count := 549755813887 }.inRange 549755813887 = true := by decide

theorem witness_StepsMoveTheCountByOne_modulo :
    { counting with span := 360, count := 359 }.span ≠ 0 ∧ (0 : Int) ≤ 359 ∧ (359 : Int) < (360 : Nat) := by decide

theorem witness_FilterAcceptsAtSampleFPlusOne :
    ({ lowLine with raw := .high }.primed = true ∧ { lowLine with raw := .high }.raw ≠ lowLine.level ∧ lowLine.run = 0) ∧
      lowLine.raw = lowLine.level ∧ FilteredLine.reset.primed = false := by decide

theorem witness_OfferUpdatesMetAndHitsOnce :
    (watching.entry 0).enabled = true ∧ (watching.entry 0).met = false ∧ (watching.entry 0).condition 1 = true ∧
      (watching.entry 0).condition 0 = false ∧ (watching.entry 1).enabled = false := by decide

theorem witness_ChannelsFireOnlyInArmed :
    ((channelIn .armed).channel 0).state = .armed ∧ ((channelIn .waiting).channel 0).state = .waiting ∧
      ((channelIn .bursting).channel 0).state = .bursting ∧ ((channelIn .disarmed).channel 0).state = .disarmed ∧
      ((channelIn .spent).channel 0).state = .spent := by decide

theorem witness_MarkEdgesAndTheRecognizer_none : (lowFor 2).mark.lowRun < 3 := by decide

theorem witness_MarkEdgesAndTheRecognizer_outside :
    (lowFor 3).mark.sampled = .notYet ∧ (lowFor 3).mark.recognizer = .ready ∧ (lowFor 3).mark.lowRun = 3 ∧
      (lowFor 3).mark.outside = .low := by decide

theorem witness_MarkEdgesAndTheRecognizer_own :
    lowOwn.mark.sampled = .notYet ∧ lowOwn.mark.recognizer = .ready ∧ lowOwn.mark.lowRun = 3 ∧
      lowOwn.mark.drive = .driving ∧ lowOwn.mark.endDue = false ∧ lowOwn.resetForced = false := by decide

/-- A part whose lines are all sampled and that owes nothing. -/
def quiet : State :=
  { State.reset with
    axes := Vector.replicate 6 { Axis.reset with sampledAB := true, sampledZ := true }
    lines := Vector.replicate 8 { TrigLine.reset with sampled := true }
    mark := { MarkUnit.reset with sampled := .taken } }

theorem witness_TickTakesWhatIsLeftAndCounts : quiet.nothingLeft := by
  refine ⟨by decide, by decide, by decide, by decide, by decide, by decide, ?_, by decide, rfl⟩
  intro p ses h
  have key : ∀ p, quiet.session p = none := by decide
  rw [key] at h
  cases h

end Sys2Proof.Tests
end

/-! ## What an answer leaves, and the request commands as one: the taking of the next request -/

namespace Sys2Proof.Machine

/-! ### The state an answer leaves (R172) -/

/-- Every state that an accepted request leaves has the property `P`. -/
def Leaves (P : State → Prop) (a : Answer) : Prop := ∀ payload t, a = .ok (payload, t) → P t

theorem leaves_ok {P : State → Prop} {payload : List Byte} {t : State} (h : P t) : Leaves P (.ok (payload, t)) := by
  rintro _ _ ⟨⟩
  exact h

theorem leaves_error {P : State → Prop} (code : ResultCode) : Leaves P (.error code) := by
  rintro _ _ ⟨⟩

/-- A check or a field that is read before the rest of a request: only its success goes on. -/
theorem leaves_bind {P : State → Prop} {α : Type} {x : Checked α} {k : α → Answer} (h : ∀ v, x = .ok v → Leaves P (k v)) :
    Leaves P (x >>= k) := by
  cases x with
  | error code => exact leaves_error code
  | ok v => exact h v rfl

/-- Steps 1 and 3 of the validation order come before the body of a request (R173). -/
theorem leaves_sessionRequest {P : State → Prop} {len : Nat} {body : PortId → Session → List Byte → State → Answer} {p : PortId}
    {payload : List Byte} {s : State}
    (h : ∀ ses, s.session p = some ses → payload.length = len → Leaves P (body p ses payload s)) :
    Leaves P (sessionRequest len body p payload s) := by
  unfold sessionRequest
  split
  · exact leaves_error _
  · next ses hs =>
    split
    · next hl => exact h ses hs hl
    · exact leaves_error _

/-- What the deposit of an answer keeps, and the taking before it, an accepted or refused request keeps. -/
theorem executorTakes_preserves {P : State → Prop} (taken : ∀ s p, P s → P (s.taken p))
    (deposit : ∀ s p r, P s → P (s.deposit p r)) {serve : Server} (h : ∀ p payload s, P s → Leaves P (serve p payload s))
    (p : PortId) (f : Frame) (s : State) (hs : P s) : P (executorTakes p f serve s) := by
  by_cases hn : s.nextRequest = some (p, f)
  · have ht := taken s p hs
    cases ha : serve p f.payload (s.taken p) with
    | error code =>
      rw [executorTakes_of_error hn ha]
      exact deposit _ _ _ ht
    | ok answer =>
      obtain ⟨payload, t⟩ := answer
      rw [executorTakes_of_ok hn ha]
      exact deposit _ _ _ (h p f.payload _ ht payload t ha)
  · rwa [executorTakes_of_not_next serve hn]

/-! ### The next request (R171) -/

/-- The server of a code is one of the table, or the one that refuses an unknown code. -/
theorem serverOf_mem (code : Byte) : (∃ e ∈ requestTable, serverOf code = e.2) ∨ serverOf code = unknownAnswer := by
  unfold serverOf
  cases h : requestTable.lookup code with
  | none => exact .inr rfl
  | some serve =>
    obtain ⟨l, r, he, -⟩ := List.lookup_eq_some_iff.mp h
    exact .inl ⟨(code, serve), by simp [he], rfl⟩

theorem leaves_unknownAnswer (P : State → Prop) (p : PortId) (payload : List Byte) (s : State) :
    Leaves P (unknownAnswer p payload s) := by
  unfold unknownAnswer
  split <;> exact leaves_error _

/-- A DEVICE_RESET that is not the next request is not taken (log entry 1). -/
theorem State.takeReset_of_not_next {s : State} {p : PortId} {f : Frame} (h : s.nextRequest ≠ some (p, f)) :
    s.takeReset p f = s := by
  simp [State.takeReset, h, executorTakes_of_not_next]

/-- With no request to be taken, nothing is taken (R171). -/
theorem State.takeNextRequest_of_none {s : State} (h : s.nextRequest = none) : s.takeNextRequest = s := by
  simp [State.takeNextRequest, h]

theorem State.takeNextRequest_of_some {s : State} {p : PortId} {f : Frame} (h : s.nextRequest = some (p, f)) :
    s.takeNextRequest = if f.command = codeDeviceReset then s.takeReset p f else executorTakes p f (serverOf f.command) s := by
  simp [State.takeNextRequest, h]

/-- A property that the parts of a taking keep, and that every request of the table leaves, the taking of the next request
keeps. -/
theorem State.takeNextRequest_preserves {P : State → Prop} (taken : ∀ s p, P s → P (s.taken p))
    (deposit : ∀ s p r, P s → P (s.deposit p r)) (reach : ∀ s : State, P s → P s.allReachLog)
    (discard : ∀ s p, P s → P (s.discardAll p))
    (serve : ∀ e ∈ requestTable, ∀ p payload s, P s → Leaves P (e.2 p payload s)) (s : State) (hs : P s) :
    P s.takeNextRequest := by
  have served : ∀ code p payload s, P s → Leaves P (serverOf code p payload s) := by
    intro code p payload s hs
    rcases serverOf_mem code with ⟨e, he, h⟩ | h <;> rw [h]
    · exact serve e he p payload s hs
    · exact leaves_unknownAnswer P p payload s
  have reset := executorTakes_preserves taken deposit (served codeDeviceReset)
  cases h : s.nextRequest with
  | none => rwa [State.takeNextRequest_of_none h]
  | some request =>
    obtain ⟨p, f⟩ := request
    rw [State.takeNextRequest_of_some h]
    split
    · unfold State.takeReset
      split
      · exact discard _ p (reset p f _ (reach s hs))
      · exact reset p f s hs
    · exact executorTakes_preserves taken deposit (served f.command) p f s hs

/-! ### The commands that are requests (R171, R173) -/

/-- A code that names no request has the server that refuses it. -/
theorem requestTable_lookup_of_unknownCodeOk {code : Byte} (h : unknownCodeOk code = true) :
    requestTable.lookup code = none := by
  rw [List.lookup_eq_none_iff]
  intro e he
  simp only [unknownCodeOk, Bool.and_eq_true, Bool.not_eq_true', List.contains_eq_mem, decide_eq_false_iff_not,
    ← Tests.test_request_codes] at h
  rw [bne_iff_ne]
  rintro rfl
  exact h.2 (List.mem_map_of_mem he)

/-- The taking of a named request, DEVICE_RESET apart, is the taking of the next request, or nothing. -/
theorem executorTakes_serverOf {code : Byte} {serve : Server} (hc : code ≠ codeDeviceReset) (hs : serverOf code = serve)
    (p : PortId) (tag : Byte) (payload : List Byte) (s : State) :
    executorTakes p { command := code, tag := tag, payload := payload } serve s =
      if s.nextRequest = some (p, { command := code, tag := tag, payload := payload }) then s.takeNextRequest else s := by
  split
  · next h => rw [State.takeNextRequest_of_some h, if_neg hc, hs]
  · next h => exact executorTakes_of_not_next serve h

theorem State.takeReset_eq (p : PortId) (tag : Byte) (payload : List Byte) (s : State) :
    s.takeReset p { command := codeDeviceReset, tag := tag, payload := payload } =
      if s.nextRequest = some (p, { command := codeDeviceReset, tag := tag, payload := payload }) then s.takeNextRequest
      else s := by
  split
  · next h => rw [State.takeNextRequest_of_some h, if_pos rfl]
  · next h => exact State.takeReset_of_not_next h

/-- An UNKNOWN_COMMAND carries a code that names no request (R173); every other command is as it is named. -/
def NamesItsRequest (c : Instr) : Prop :=
  ∀ p code tag payload, c = .unknownCommand p code tag payload → requestTable.lookup code = none

/-- A request command takes the next request when it names it, and does nothing otherwise (R171, log entry 1). -/
theorem exec_request_of_namesItsRequest {c : Instr} {p : PortId} {f : Frame} (hw : NamesItsRequest c) (h : requestOf c = some (p, f))
    (s : State) : exec c s = .next (if s.nextRequest = some (p, f) then s.takeNextRequest else s) := by
  cases c with
  | unknownCommand q code tag payload =>
    cases h
    have hc := hw _ _ _ _ rfl
    have hr : code ≠ codeDeviceReset := by
      rintro rfl
      cases hc
    have hs : serverOf code = unknownAnswer := by rw [serverOf, hc]; rfl
    change execUnknownCommand p code tag payload s = _
    unfold execUnknownCommand
    rw [hc, executorTakes_serverOf hr hs]
    rfl
  | deviceReset q tag payload =>
    cases h
    exact congrArg _ (State.takeReset_eq p tag payload s)
  | _ =>
    cases h <;> exact congrArg _ (executorTakes_serverOf (by decide) rfl _ _ _ s)

/-- A well-formed request command takes the next request when it names it, and does nothing otherwise (R171, log entry 1). -/
theorem exec_request {c : Instr} {p : PortId} {f : Frame} (hw : c.wellFormed = true) (h : requestOf c = some (p, f))
    (s : State) : exec c s = .next (if s.nextRequest = some (p, f) then s.takeNextRequest else s) := by
  refine exec_request_of_namesItsRequest ?_ h s
  rintro q code tag payload rfl
  exact requestTable_lookup_of_unknownCodeOk (Bool.and_eq_true_iff.mp hw).1

/-- Every request command takes the next request, or does nothing (R171, log entry 1). -/
theorem exec_request_cases {c : Instr} {p : PortId} {f : Frame} (h : requestOf c = some (p, f)) (s : State) :
    exec c s = .next s ∨ exec c s = .next s.takeNextRequest := by
  by_cases hw : NamesItsRequest c
  · rw [exec_request_of_namesItsRequest hw h]
    split
    · exact .inr rfl
    · exact .inl rfl
  · simp only [NamesItsRequest, not_forall] at hw
    obtain ⟨q, code, tag, payload, rfl, hc⟩ := hw
    exact .inl (if_pos (Option.isSome_iff_ne_none.mpr hc))

end Sys2Proof.Machine

/-! ## What the happenings leave of the log -/

namespace Sys2Proof.Machine

/-! ### What the frames say of the log -/

theorem OnlyEvents.log {s t : State} (h : OnlyEvents s t) : t.log = s.log := by rw [h]
theorem OnlyAxis.log {s t : State} (h : OnlyAxis s t) : t.log = s.log := by rw [h]
theorem OnlyOffer.log {s t : State} (h : OnlyOffer s t) : t.log = s.log := by rw [h]
theorem OnlyMet.log {s t : State} (h : OnlyMet s t) : t.log = s.log := by rw [h]
theorem OnlyPark.log {s t : State} (h : OnlyPark s t) : t.log = s.log := by rw [h]

/-! ### The field side (R45, R54, R71, R108, R122 to R124) -/

theorem State.showAxis_only (s : State) (n : AxisId) (input : AxisInput) : OnlyAxis s (s.showAxis n input) := by
  cases input with
  | ab a b entries channels =>
    have shown := s.setAxis_only n ((s.axis n).show a b)
    simp only [State.showAxis]
    split
    · exact shown
    · split
      · exact OnlyAxis.trans _ _ _ (s.sampleAB_only n entries channels.events) (State.setAxis_only _ n _)
      · exact OnlyAxis.trans _ _ _ shown (State.sampleAB_only _ n _ _)
  | z z channels =>
    have shown := s.setAxis_only n { s.axis n with z := { (s.axis n).z with raw := z } }
    simp only [State.showAxis]
    split
    · exact shown
    · exact OnlyAxis.trans _ _ _ shown (State.sampleZ_only _ n _)

/-- From `s` to `t` nothing but the trigger lines and what trigger events change has changed. -/
def OnlyLines (s t : State) : Prop :=
  t = { s with lines := t.lines, channels := t.channels, underway := t.underway, sessions := t.sessions }

@[refl] theorem OnlyLines.refl (s : State) : OnlyLines s s := rfl

theorem OnlyLines.trans (s t u : State) (h : OnlyLines s t) (k : OnlyLines t u) : OnlyLines s u := by
  unfold OnlyLines at *
  exact k.trans (by rw [h])

theorem OnlyEvents.onlyLines {s t : State} (h : OnlyEvents s t) : OnlyLines s t := by
  unfold OnlyEvents OnlyLines at *
  rw [h]

theorem OnlyLines.log {s t : State} (h : OnlyLines s t) : t.log = s.log := by rw [h]

theorem State.setLine_only (s : State) (l : LineId) (x : TrigLine) : OnlyLines s (s.setLine l x) := rfl

theorem State.sampleTrigLine_only (s : State) (l : LineId) (order : List ChannelId) :
    OnlyLines s (s.sampleTrigLine l order) := by
  unfold State.sampleTrigLine
  dsimp only
  split
  · exact OnlyLines.trans _ _ _ (s.setLine_only l _) (State.triggerEvents_only _ _).onlyLines
  · exact s.setLine_only l _

theorem State.showTrigLine_only (s : State) (l : LineId) (raw : Level) (order : List ChannelId) :
    OnlyLines s (s.showTrigLine l raw order) := by
  unfold State.showTrigLine
  dsimp only
  split
  · exact s.setLine_only l _
  · exact OnlyLines.trans _ _ _ (s.setLine_only l _) (State.sampleTrigLine_only _ l order)

theorem State.takeGatePulseEnd_only (s : State) (g : GateId) : OnlyGates s (s.takeGatePulseEnd g) := by
  unfold State.takeGatePulseEnd
  dsimp only
  split <;> rfl

theorem State.takeMarkPulseEnd_only (s : State) : OnlyOffer s s.takeMarkPulseEnd := by
  unfold State.takeMarkPulseEnd
  split
  · exact s.setMark_only _
  · exact OnlyOffer.refl s

/-- From `s` to `t` nothing but the timebase, the MARK unit and what trigger events change has changed. -/
def OnlyEdge (s t : State) : Prop :=
  t = { s with time := t.time, mark := t.mark, channels := t.channels, underway := t.underway, sessions := t.sessions }

@[refl] theorem OnlyEdge.refl (s : State) : OnlyEdge s s := rfl

theorem OnlyEdge.trans (s t u : State) (h : OnlyEdge s t) (k : OnlyEdge t u) : OnlyEdge s u := by
  unfold OnlyEdge at *
  exact k.trans (by rw [h])

theorem OnlyEvents.onlyEdge {s t : State} (h : OnlyEvents s t) : OnlyEdge s t := by
  unfold OnlyEvents OnlyEdge at *
  rw [h]

theorem OnlySessions.onlyEdge {s t : State} (h : OnlySessions s t) : OnlyEdge s t := h.onlyEvents.onlyEdge

theorem OnlyEdge.log {s t : State} (h : OnlyEdge s t) : t.log = s.log := by rw [h]

theorem State.setTime_only (s : State) (t : Timebase) : OnlyEdge s (s.setTime t) := rfl

theorem State.alignAtEdge_only (s : State) : OnlyEdge s s.alignAtEdge := by
  unfold State.alignAtEdge
  split
  · exact OnlyEdge.trans _ _ _ (s.setTime_only _) (State.raiseToAll_only _ _).onlyEdge
  · exact OnlyEdge.refl s

theorem State.markCapture_only (s : State) : OnlyEvents s s.markCapture := by
  unfold State.markCapture
  split
  · exact OnlyEvents.refl s
  · exact s.request_only _

theorem State.markNotify_only (s : State) : OnlySessions s s.markNotify := by
  unfold State.markNotify
  split
  · exact s.raiseToAll_only _
  · exact OnlySessions.refl s

theorem State.recogniseEdge_only (s : State) (order : List ChannelId) : OnlyEdge s (s.recogniseEdge order) :=
  OnlyEdge.trans _ _ _ (OnlyEdge.trans _ _ _ (OnlyEdge.trans _ _ _ s.alignAtEdge_only (State.markCapture_only _).onlyEdge)
    (State.triggerEvents_only _ _).onlyEdge) (State.markNotify_only _).onlyEdge

theorem State.sampleMark_only (s : State) (order : List ChannelId) : OnlyEdge s (s.sampleMark order) := by
  have sampled : OnlyEdge s (s.setMark s.mark.sample.1) := rfl
  unfold State.sampleMark
  dsimp only
  split
  · exact OnlyEdge.trans _ _ _ sampled (State.recogniseEdge_only _ order)
  · exact sampled

theorem State.takeRecognisedEdge_only (s : State) (order : List ChannelId) : OnlyEdge s (s.takeRecognisedEdge order) := by
  unfold State.takeRecognisedEdge
  split
  · exact s.sampleMark_only order
  · exact OnlyEdge.refl s

theorem State.takeRearm_only (s : State) : OnlyOffer s s.takeRearm := by
  unfold State.takeRearm
  split
  · exact s.setMark_only _
  · exact OnlyOffer.refl s

/-! ### Sessions and ports (R135, R138, R139, R162 to R168) -/

theorem State.closeSession_log (s : State) (p : PortId) : (s.closeSession p).log = s.log := by
  rw [s.closeSession_eq, State.setSession_log, (s.closeSession_fold_only p).log]

@[simp] theorem State.discardQueues_log (s : State) (p : PortId) (kept : Nat) : (s.discardQueues p kept).log = s.log := rfl

theorem State.expire_log (s : State) (p : PortId) : (s.expire p).log = s.log := by
  unfold State.expire
  dsimp only
  rw [State.setPort_log, State.discardQueues_log, State.closeSession_log]

theorem State.takeExpiry_log (s : State) (p : PortId) : (s.takeExpiry p).log = s.log := by
  unfold State.takeExpiry
  split
  · exact s.expire_log p
  · rfl

theorem State.discardAll_log (s : State) (p : PortId) : (s.discardAll p).log = s.log := by rw [s.discardAll_eq]

theorem State.unblock_log (s : State) (p : PortId) : (s.unblock p).log = s.log := by
  unfold State.unblock
  dsimp only
  split <;> rfl

theorem State.beginTransaction_log (s : State) (p : PortId) : (s.beginTransaction p).log = s.log := by
  unfold State.beginTransaction
  dsimp only
  split <;> rfl

theorem State.showStatus_log (s : State) (p : PortId) (received : Byte) : (s.showStatus p received).log = s.log := by
  unfold State.showStatus
  dsimp only
  split
  · rfl
  · rfl
  · split <;> rfl

theorem State.deliverResponse_log (s : State) (p : PortId) (received : List Byte) :
    (s.deliverResponse p received).log = s.log := by
  unfold State.deliverResponse
  dsimp only
  split
  · rfl
  · rfl
  · split
    · rfl
    · split <;> rfl

theorem State.reloadTimer_log (s : State) (p : PortId) : (s.reloadTimer p).log = s.log := by
  unfold State.reloadTimer
  split <;> rfl

theorem State.beforeFrame_log (s : State) (p : PortId) : (s.beforeFrame p).log = s.log := by
  unfold State.beforeFrame
  split
  · exact s.expire_log p
  · rfl

theorem State.endTransaction_log (s : State) (p : PortId) (received : List Byte) :
    (s.endTransaction p received).log = s.log := by
  unfold State.endTransaction
  dsimp only
  split
  · rfl
  · rfl
  · split
    · rfl
    · rfl
    · exact (State.reloadTimer_log _ p).trans (s.beforeFrame_log p)

/-! ### The end of a tick (log entry 2) -/

theorem State.sampleAxesLeft_only (s : State) : OnlyAxis s s.sampleAxesLeft :=
  foldl_reaches OnlyAxis OnlyAxis.refl OnlyAxis.trans _ (fun t n => by
    have ab : OnlyAxis t (if (t.axis n).sampledAB then t else t.sampleAB n [] []) := by
      split
      · exact OnlyAxis.refl t
      · exact t.sampleAB_only n [] []
    dsimp only
    generalize (if (t.axis n).sampledAB then t else t.sampleAB n [] []) = u at ab
    split
    · exact ab
    · exact OnlyAxis.trans _ _ _ ab (u.sampleZ_only n [])) allAxes s

theorem State.sampleLinesLeft_only (s : State) : OnlyLines s s.sampleLinesLeft :=
  foldl_reaches OnlyLines OnlyLines.refl OnlyLines.trans _
    (fun t l => by split <;> [exact OnlyLines.refl t; exact t.sampleTrigLine_only l []]) allLines s

theorem State.burstStepsLeft_only (s : State) : OnlyEvents s s.burstStepsLeft :=
  foldl_reaches OnlyEvents OnlyEvents.refl OnlyEvents.trans _ State.takeBurstStep_only allChannels s

theorem State.gatePulseEndsLeft_only (s : State) : OnlyGates s s.gatePulseEndsLeft :=
  foldl_reaches OnlyGates OnlyGates.refl OnlyGates.trans _ State.takeGatePulseEnd_only allGates s

theorem State.sampleMarkLeft_only (s : State) : OnlyEdge s s.sampleMarkLeft := by
  unfold State.sampleMarkLeft
  split
  · exact s.sampleMark_only []
  · exact OnlyEdge.refl s

theorem State.expiriesLeft_log (s : State) : s.expiriesLeft.log = s.log :=
  foldl_keeps State.log _ State.takeExpiry_log allPorts s

theorem State.expiriesLast_log (s : State) : s.expiriesLast.log = s.log :=
  foldl_keeps State.log _ (fun t p => by split <;> [exact t.expire_log p; rfl]) allPorts s

end Sys2Proof.Machine

/-! ## Within a tick: what has been taken in it is not left again (log entries 2 and 11) -/

namespace Sys2Proof.Machine

/-- The step of a channel's burst is not due (R54). -/
def Channel.StepTaken (x : Channel) : Prop := x.state = .bursting → x.stepDue = false

/-- From `s` to `t` the part goes on within one tick: a sample, a pulse end, a burst step, an expiry or a request that is not left
in `s` is not left in `t`, and the commands that wait are kept. -/
structure WithinTick (s t : State) : Prop where
  sampledAB : ∀ n, (s.axis n).sampledAB = true → (t.axis n).sampledAB = true
  sampledZ : ∀ n, (s.axis n).sampledZ = true → (t.axis n).sampledZ = true
  sampled : ∀ l, (s.trigLine l).sampled = true → (t.trigLine l).sampled = true
  pulse : s.mark.endDue = false → t.mark.endDue = false
  gates : ∀ g, (s.gate g).endDue = false → (t.gate g).endDue = false
  steps : ∀ c, (s.channel c).StepTaken → (t.channel c).StepTaken
  expiries : ∀ p, s.expiryDue p = false → t.expiryDue p = false
  took : s.executor.took = true → t.executor.took = true
  pending : t.pending = s.pending

namespace WithinTick

@[refl] theorem refl (s : State) : WithinTick s s :=
  ⟨fun _ h => h, fun _ h => h, fun _ h => h, id, fun _ h => h, fun _ h => h, fun _ h => h, id, rfl⟩

theorem trans (s t u : State) (h : WithinTick s t) (k : WithinTick t u) : WithinTick s u where
  sampledAB n := k.sampledAB n ∘ h.sampledAB n
  sampledZ n := k.sampledZ n ∘ h.sampledZ n
  sampled l := k.sampled l ∘ h.sampled l
  pulse := k.pulse ∘ h.pulse
  gates g := k.gates g ∘ h.gates g
  steps c := k.steps c ∘ h.steps c
  expiries p := k.expiries p ∘ h.expiries p
  took := k.took ∘ h.took
  pending := k.pending.trans h.pending

/-- A fold of operations within a tick is one. -/
theorem foldl {α : Type} (f : State → α → State) (h : ∀ t x, WithinTick t (f t x)) (l : List α) (s : State) :
    WithinTick s (l.foldl f s) := foldl_reaches WithinTick refl trans f h l s

/-- A choice between operations within a tick is one. -/
theorem ite {b : Prop} [Decidable b] {s t u : State} (h : WithinTick s t) (k : WithinTick s u) :
    WithinTick s (if b then t else u) := by
  split
  · exact h
  · exact k

end WithinTick

/-! ### The updates of one unit -/

/-- From `s` to `t` no unit that a tick takes anything from has changed. -/
theorem WithinTick.of_others {s t : State}
    (h : t = { s with time := t.time, entries := t.entries, log := t.log, underway := t.underway, claims := t.claims
                      ports := t.ports, discards := t.discards }) : WithinTick s t := by
  rw [h]
  exact ⟨fun _ h => h, fun _ h => h, fun _ h => h, id, fun _ h => h, fun _ h => h, fun _ h => h, id, rfl⟩

theorem State.setAxis_withinTick {s : State} {n : AxisId} {x : Axis}
    (hab : (s.axis n).sampledAB = true → x.sampledAB = true) (hz : (s.axis n).sampledZ = true → x.sampledZ = true) :
    WithinTick s (s.setAxis n x) :=
  { WithinTick.refl s with
    sampledAB := fun k h => by
      rw [State.setAxis_axis]
      split
      · next e => exact hab (e ▸ h)
      · exact h
    sampledZ := fun k h => by
      rw [State.setAxis_axis]
      split
      · next e => exact hz (e ▸ h)
      · exact h }

theorem State.setLine_withinTick {s : State} {l : LineId} {x : TrigLine} (hx : (s.trigLine l).sampled = true → x.sampled = true) :
    WithinTick s (s.setLine l x) :=
  { WithinTick.refl s with
    sampled := fun k h => by
      rw [State.setLine_trigLine]
      split
      · next e => exact hx (e ▸ h)
      · exact h }

theorem State.setMark_withinTick {s : State} {m : MarkUnit} (hm : s.mark.endDue = false → m.endDue = false) :
    WithinTick s (s.setMark m) := { WithinTick.refl s with pulse := hm }

theorem State.setGate_withinTick {s : State} {g : GateId} {x : Gate} (hx : (s.gate g).endDue = false → x.endDue = false) :
    WithinTick s (s.setGate g x) :=
  { WithinTick.refl s with
    gates := fun k h => by
      rw [State.setGate_gate]
      split
      · next e => exact hx (e ▸ h)
      · exact h }

theorem State.setChannel_withinTick {s : State} {c : ChannelId} {x : Channel} (hx : (s.channel c).StepTaken → x.StepTaken) :
    WithinTick s (s.setChannel c x) :=
  { WithinTick.refl s with
    steps := fun k h => by
      rw [State.setChannel_channel]
      split
      · next e => exact hx (e ▸ h)
      · exact h }

/-- A channel whose run state stays owes no step that it did not owe. -/
theorem State.setChannel_sameRun_withinTick (s : State) (c : ChannelId) {x : Channel} (hs : x.state = (s.channel c).state)
    (hd : x.stepDue = (s.channel c).stepDue) : WithinTick s (s.setChannel c x) :=
  State.setChannel_withinTick fun h => by
    unfold Channel.StepTaken
    rw [hs, hd]
    exact h

theorem State.expiryDue_eq (s : State) (p : PortId) : s.expiryDue p = ((s.session p).map Session.expiryDue).getD false := by
  unfold State.expiryDue
  cases s.session p <;> rfl

theorem State.setSession_withinTick {s : State} {p : PortId} {x : Option Session}
    (hx : s.expiryDue p = false → ∀ ses, x = some ses → ses.expiryDue = false) : WithinTick s (s.setSession p x) :=
  { WithinTick.refl s with
    expiries := fun q h => by
      rw [State.expiryDue_eq, State.setSession_session]
      split
      · next e =>
        cases x with
        | none => rfl
        | some ses => exact hx (e ▸ h) ses rfl
      · rwa [← State.expiryDue_eq] }

/-- A session that keeps its idle timer expires no sooner. -/
theorem State.setSession_sameTimer_withinTick {s : State} {p : PortId} {ses : Session} (hs : s.session p = some ses)
    {new : Session} (hl : new.idleLimit = ses.idleLimit) (he : new.elapsed = ses.elapsed) :
    WithinTick s (s.setSession p (some new)) :=
  State.setSession_withinTick fun h ses' e => by
    cases e
    rw [State.expiryDue_eq, hs] at h
    unfold Session.expiryDue Session.limitTicks
    rw [hl, he]
    exact h

/-! ### Events, readers and captures (R10, R14, R31, R152) -/

theorem State.raiseTo_withinTick (s : State) (p : PortId) (ev : Event) : WithinTick s (s.raiseTo p ev) := by
  unfold State.raiseTo
  split
  · exact WithinTick.refl s
  · next ses hs => exact State.setSession_sameTimer_withinTick hs rfl rfl

theorem State.raiseToOwner_withinTick (s : State) (r : Resource) (ev : Event) : WithinTick s (s.raiseToOwner r ev) := by
  unfold State.raiseToOwner
  split
  · exact WithinTick.refl s
  · exact s.raiseTo_withinTick _ ev

theorem State.raiseToAll_withinTick (s : State) (ev : Event) : WithinTick s (s.raiseToAll ev) :=
  WithinTick.foldl _ (fun t p => t.raiseTo_withinTick p ev) allPorts s

theorem State.raiseToReaders_withinTick (s : State) (ev : Event) : WithinTick s (s.raiseToReaders ev) :=
  WithinTick.foldl _ (fun t p => WithinTick.ite (t.raiseTo_withinTick p ev) (WithinTick.refl t)) allPorts s

theorem State.setReader_withinTick (s : State) (p : PortId) (r : Option Reader) : WithinTick s (s.setReader p r) := by
  unfold State.setReader
  split
  · exact WithinTick.refl s
  · next ses hs => exact State.setSession_sameTimer_withinTick hs rfl rfl

theorem State.levelCheck_withinTick (s : State) (p : PortId) : WithinTick s (s.levelCheck p) := by
  unfold State.levelCheck
  split
  · exact WithinTick.refl s
  · exact WithinTick.ite (s.setReader_withinTick p _) (WithinTick.ite (WithinTick.refl s)
      (WithinTick.trans _ _ _ (s.setReader_withinTick p _) (State.raiseTo_withinTick _ p _)))

theorem State.lap_withinTick (tail : Seq) (s : State) (p : PortId) : WithinTick s (State.lap tail s p) := by
  unfold State.lap
  split
  · exact WithinTick.refl s
  · exact WithinTick.ite (WithinTick.trans _ _ _ (s.setReader_withinTick p _) (State.raiseTo_withinTick _ p _))
      (WithinTick.refl s)

theorem State.setLog_withinTick (s : State) (l : CaptureLog) : WithinTick s (s.setLog l) := .of_others rfl

theorem State.evict_withinTick (s : State) : WithinTick s s.evict := by
  unfold State.evict
  exact WithinTick.trans _ _ _ (s.setLog_withinTick _) (WithinTick.foldl _ (State.lap_withinTick s.log.tail) allPorts _)

theorem State.levelChecks_withinTick (s : State) : WithinTick s s.levelChecks :=
  WithinTick.foldl _ State.levelCheck_withinTick allPorts s

theorem State.write_withinTick (s : State) (c : Capture) : WithinTick s (s.write c) := by
  unfold State.write
  exact WithinTick.trans _ _ _ (s.setLog_withinTick _) (State.levelChecks_withinTick _)

theorem State.drop_withinTick (s : State) : WithinTick s s.drop :=
  WithinTick.trans _ _ _ (s.setLog_withinTick _) (State.raiseToReaders_withinTick _ _)

theorem State.capture_withinTick (s : State) (c : Capture) : WithinTick s (s.capture c).1 := by
  unfold State.capture
  split
  · dsimp only
    exact s.write_withinTick c
  · split
    · dsimp only
      exact s.drop_withinTick
    · dsimp only
      exact WithinTick.trans _ _ _ s.evict_withinTick (State.write_withinTick _ c)

theorem State.handOver_withinTick (s : State) (c : Capture) : WithinTick s (s.handOver c).1 := by
  have h := s.capture_withinTick c
  unfold State.handOver
  dsimp only
  split
  · exact WithinTick.trans _ _ _ h (State.setChannel_sameRun_withinTick _ _ rfl rfl)
  · exact h
  · exact h
  · exact h

theorem State.arrive_withinTick (s : State) (now rest : List Capture) : WithinTick s (s.arrive now rest) :=
  WithinTick.trans s { s with underway := rest } _ (.of_others rfl) (WithinTick.foldl _ State.handOver_withinTick now _)

theorem State.request_withinTick (s : State) (c : Capture) : WithinTick s (s.request c) := .of_others rfl

/-! ### Channels (R49, R51, R52, R54) -/

theorem Channel.notice_stepTaken {x : Channel} (h : x.StepTaken) (c : ChannelId) : (x.notice c).StepTaken := by
  unfold Channel.notice
  split
  · intro hb
    dsimp only at hb
    split at hb <;> cases hb
  · exact h

theorem ArmMode.rest_ne_bursting (m : ArmMode) : m.rest ≠ .bursting := by cases m <;> decide

theorem Channel.afterFiring_stepTaken (x : Channel) : x.afterFiring.StepTaken := by
  unfold Channel.afterFiring
  dsimp only
  split
  · exact fun _ => rfl
  · exact fun h => absurd h x.config.mode.rest_ne_bursting

theorem Channel.afterStep_stepTaken (x : Channel) : x.afterStep.StepTaken := by
  unfold Channel.afterStep
  split <;> exact fun _ => rfl

theorem State.noticeAll_withinTick (s : State) (c : ChannelId) : WithinTick s (s.noticeAll c) :=
  WithinTick.foldl _ (fun t _ => WithinTick.ite (WithinTick.refl t)
    (State.setChannel_withinTick fun h => Channel.notice_stepTaken h c)) allChannels s

theorem State.fire_withinTick (s : State) (c : ChannelId) : WithinTick s (s.fire c) := by
  have h := s.noticeAll_withinTick c
  unfold State.fire
  dsimp only
  exact WithinTick.trans _ _ _ (WithinTick.ite (WithinTick.trans _ _ _ h (State.raiseToOwner_withinTick _ _ _)) h)
    (State.setChannel_withinTick fun _ => Channel.afterFiring_stepTaken _)

theorem State.triggerEvent_withinTick (s : State) (c : ChannelId) : WithinTick s (s.triggerEvent c) := by
  have ignored : WithinTick s ((s.setChannel c { s.channel c with
      ignored := saturate Config.counterLimit (s.channel c).ignored }).raiseToOwner (.channel c) (.trigIgnored c)) := by
    refine WithinTick.trans _ _ _ ?_ (State.raiseToOwner_withinTick _ _ _)
    exact s.setChannel_sameRun_withinTick c rfl rfl
  unfold State.triggerEvent
  dsimp only
  split
  · exact WithinTick.refl s
  · exact WithinTick.refl s
  · exact WithinTick.trans _ _ _ (s.request_withinTick _) (State.fire_withinTick _ c)
  · exact ignored
  · exact ignored

theorem State.triggerEvents_withinTick (s : State) (l : List ChannelId) : WithinTick s (s.triggerEvents l) :=
  WithinTick.foldl _ State.triggerEvent_withinTick l s

theorem State.takeBurstStep_withinTick (s : State) (c : ChannelId) : WithinTick s (s.takeBurstStep c) := by
  have h : WithinTick s ((s.request (s.channelCapture c (s.channel c).nextIndex)).setChannel c (s.channel c).afterStep) :=
    WithinTick.trans _ _ _ (s.request_withinTick _) (State.setChannel_withinTick fun _ => Channel.afterStep_stepTaken _)
  unfold State.takeBurstStep
  dsimp only
  exact WithinTick.ite (WithinTick.ite h (WithinTick.trans _ _ _ h (State.raiseToOwner_withinTick _ _ _))) (WithinTick.refl s)

theorem State.sampleTrigLine_withinTick (s : State) (l : LineId) (order : List ChannelId) :
    WithinTick s (s.sampleTrigLine l order) := by
  unfold State.sampleTrigLine
  dsimp only
  have h : WithinTick s (s.setLine l { s.trigLine l with
      line := (s.trigLine l).line.sample (s.trigLine l).sampleFilter, sampled := true }) :=
    State.setLine_withinTick fun _ => rfl
  exact WithinTick.ite (WithinTick.trans _ _ _ h (State.triggerEvents_withinTick _ _)) h

/-! ### Gates, entries and axes (R83, R99 to R101, R107, R108) -/

theorem State.takeGatePulseEnd_withinTick (s : State) (g : GateId) : WithinTick s (s.takeGatePulseEnd g) := by
  unfold State.takeGatePulseEnd
  dsimp only
  exact WithinTick.ite (State.setGate_withinTick fun _ => rfl) (WithinTick.refl s)

theorem State.followGates_withinTick (s : State) (e : EntryId) : WithinTick s (s.followGates e) :=
  { WithinTick.refl s with
    gates := fun g h => by
      rw [State.followGates_gate, State.followGate]
      split <;> exact h }

theorem State.pulseGates_withinTick (s : State) (e : EntryId) : WithinTick s (s.pulseGates e) :=
  { WithinTick.refl s with
    gates := fun g h => by
      rw [State.pulseGates_gate, Gate.hit]
      split
      · rfl
      · exact h }

theorem State.setEntry_withinTick (s : State) (e : EntryId) (x : Entry) : WithinTick s (s.setEntry e x) := .of_others rfl

theorem State.replaceEntry_withinTick (s : State) (e : EntryId) (x : Entry) : WithinTick s (s.replaceEntry e x) := by
  have h := s.setEntry_withinTick e x
  unfold State.replaceEntry
  dsimp only
  exact WithinTick.ite h (WithinTick.trans _ _ _ h (State.followGates_withinTick _ e))

theorem State.setMet_withinTick (s : State) (e : EntryId) (met : Bool) : WithinTick s (s.setMet e met) := by
  unfold State.setMet
  dsimp only
  exact WithinTick.ite (WithinTick.refl s)
    (WithinTick.trans _ _ _ (s.setEntry_withinTick e _) (State.followGates_withinTick _ e))

theorem State.requestMark_withinTick (s : State) (e : EntryId) : WithinTick s (s.requestMark e) := by
  unfold State.requestMark
  exact WithinTick.ite (State.setMark_withinTick fun _ => rfl) (s.setEntry_withinTick e _)

theorem State.hit_withinTick (s : State) (e : EntryId) : WithinTick s (s.hit e) := by
  unfold State.hit
  dsimp only
  have recorded := s.setEntry_withinTick e ((s.entry e).recordHit s.stamp)
  have told : WithinTick s (if (s.entry e).event then
      (s.setEntry e ((s.entry e).recordHit s.stamp)).raiseToOwner (.entry e) (.cmpHit e)
      else s.setEntry e ((s.entry e).recordHit s.stamp)) :=
    WithinTick.ite (WithinTick.trans _ _ _ recorded (State.raiseToOwner_withinTick _ _ _)) recorded
  have pulsed := WithinTick.trans _ _ _ told (State.pulseGates_withinTick _ e)
  exact WithinTick.ite (WithinTick.trans _ _ _ pulsed (State.requestMark_withinTick _ e)) pulsed

theorem State.offerEntry_withinTick (kind : OfferKind) (v : Int) (s : State) (e : EntryId) :
    WithinTick s (State.offerEntry kind v s e) := by
  have met := s.setMet_withinTick e ((s.entry e).condition v)
  unfold State.offerEntry
  dsimp only
  exact WithinTick.ite (WithinTick.refl s) (WithinTick.ite (WithinTick.trans _ _ _ met (State.hit_withinTick _ e)) met)

theorem State.offer_withinTick (s : State) (n : AxisId) (kind : OfferKind) (entries : List EntryId) :
    WithinTick s (s.offer n kind entries) :=
  WithinTick.foldl _ (State.offerEntry_withinTick kind _) _ s

theorem State.faultAxis_withinTick (s : State) (n : AxisId) {x : Axis} (hab : x.sampledAB = (s.axis n).sampledAB)
    (hz : x.sampledZ = (s.axis n).sampledZ) (cause : FaultCause) : WithinTick s (s.faultAxis n x cause) := by
  unfold State.faultAxis
  refine WithinTick.trans _ _ _ ?_ (State.raiseToOwner_withinTick _ _ _)
  exact State.setAxis_withinTick hab.trans hz.trans

/-- An axis set to another count or span, which it then offers, keeps its samples of the tick (R79, R81, R82). -/
theorem State.setAxis_offer_withinTick (s : State) (n : AxisId) {x : Axis} (hab : x.sampledAB = (s.axis n).sampledAB)
    (hz : x.sampledZ = (s.axis n).sampledZ) (kind : OfferKind) (entries : List EntryId) :
    WithinTick s ((s.setAxis n x).offer n kind entries) :=
  WithinTick.trans _ _ _ (State.setAxis_withinTick hab.trans hz.trans) (State.offer_withinTick _ n kind entries)

theorem Axis.setMode_sampledAB (x : Axis) (mode : DecodeMode) : (x.setMode mode).sampledAB = x.sampledAB := by
  unfold Axis.setMode
  split_ifs <;> rfl

theorem Axis.setMode_sampledZ (x : Axis) (mode : DecodeMode) : (x.setMode mode).sampledZ = x.sampledZ := by
  unfold Axis.setMode
  split_ifs <;> rfl

/-- A counting step moves the count and the turns alone (R77, R78). -/
theorem Axis.stepped_eq {x y : Axis} {up : Bool} (h : x.stepped up = some y) :
    y = { x with count := y.count, turns := y.turns } := by
  unfold Axis.stepped at h
  cases up <;> simp only [Bool.false_eq_true, if_true, if_false] at h <;> split_ifs at h <;> cases h <;> rfl

theorem State.applyDecoded_withinTick (s : State) (n : AxisId) (d : Decoded) (entries : List EntryId)
    (channels : List ChannelId) : WithinTick s (s.applyDecoded n d entries channels) := by
  unfold State.applyDecoded
  dsimp only
  split
  · exact WithinTick.refl s
  · split
    · exact WithinTick.refl s
    · refine s.faultAxis_withinTick n ?_ ?_ _ <;> rfl
    · split
      · next y hy =>
        have he := Axis.stepped_eq hy
        have moved : WithinTick s (s.setAxis n y) :=
          State.setAxis_withinTick (fun h => by rw [he]; exact h) (fun h => by rw [he]; exact h)
        exact WithinTick.trans _ _ _ (WithinTick.trans _ _ _ moved (State.offer_withinTick _ n _ _))
          (State.triggerEvents_withinTick _ _)
      · exact s.faultAxis_withinTick n rfl rfl _

theorem State.sampleAB_withinTick (s : State) (n : AxisId) (entries : List EntryId) (channels : List ChannelId) :
    WithinTick s (s.sampleAB n entries channels) := by
  unfold State.sampleAB
  dsimp only
  refine WithinTick.trans _ _ _ ?_ (State.applyDecoded_withinTick _ n _ _ _)
  exact State.setAxis_withinTick (fun _ => rfl) fun h => h

theorem State.sampleZ_withinTick (s : State) (n : AxisId) (channels : List ChannelId) :
    WithinTick s (s.sampleZ n channels) := by
  unfold State.sampleZ
  dsimp only
  have h : WithinTick s (s.setAxis n { s.axis n with z := (s.axis n).z.sample (s.axis n).sampleFilter, sampledZ := true }) :=
    State.setAxis_withinTick (fun h => h) fun _ => rfl
  exact WithinTick.ite (WithinTick.trans _ _ _ h (State.triggerEvents_withinTick _ _)) h

/-! ### The MARK line (R120, R123, R124, R126) -/

theorem State.takeMarkPulseEnd_withinTick (s : State) : WithinTick s s.takeMarkPulseEnd :=
  WithinTick.ite (State.setMark_withinTick fun _ => rfl) (WithinTick.refl s)

theorem State.setTime_withinTick (s : State) (t : Timebase) : WithinTick s (s.setTime t) := .of_others rfl

theorem State.recogniseEdge_withinTick (s : State) (order : List ChannelId) : WithinTick s (s.recogniseEdge order) := by
  have aligned : WithinTick s s.alignAtEdge :=
    WithinTick.ite (WithinTick.trans _ _ _ (s.setTime_withinTick _) (State.raiseToAll_withinTick _ _)) (WithinTick.refl s)
  have captured : WithinTick s s.alignAtEdge.markCapture :=
    WithinTick.trans _ _ _ aligned (WithinTick.ite (WithinTick.refl _) (State.request_withinTick _ _))
  have triggered := WithinTick.trans _ _ _ captured
    (State.triggerEvents_withinTick _ (s.alignAtEdge.markCapture.sourceChannels .mark order))
  exact WithinTick.trans _ _ _ triggered (WithinTick.ite (State.raiseToAll_withinTick _ _) (WithinTick.refl _))

theorem MarkUnit.sample_endDue (m : MarkUnit) : m.sample.1.endDue = m.endDue := by
  unfold MarkUnit.sample
  split
  · rfl
  · split <;> rfl
  · rfl
  · split <;> rfl

theorem State.sampleMark_withinTick (s : State) (order : List ChannelId) : WithinTick s (s.sampleMark order) := by
  have h : WithinTick s (s.setMark s.mark.sample.1) := State.setMark_withinTick fun hm => s.mark.sample_endDue.trans hm
  exact WithinTick.ite (WithinTick.trans _ _ _ h (State.recogniseEdge_withinTick _ order)) h

/-! ### Sessions and the executor (R138, R139, R142, R147, R171) -/

theorem State.setOwner_withinTick (s : State) (r : Resource) (o : Option PortId) : WithinTick s (s.setOwner r o) := .of_others rfl

theorem State.park_withinTick (s : State) (r : Resource) : WithinTick s (s.park r) := by
  cases r with
  | axis n => exact WithinTick.refl s
  | channel c => exact State.setChannel_withinTick fun _ _ => rfl
  | entry e => exact s.replaceEntry_withinTick e _
  | gate g => exact State.setGate_withinTick fun _ => rfl
  | mark => exact s.setTime_withinTick _

theorem State.giveUp_withinTick (s : State) (r : Resource) : WithinTick s (s.giveUp r) :=
  WithinTick.trans _ _ _ (s.setOwner_withinTick r none) (State.park_withinTick _ r)

theorem State.closeSession_withinTick (s : State) (p : PortId) : WithinTick s (s.closeSession p) :=
  WithinTick.trans _ _ _
    (WithinTick.foldl _ (fun t r => WithinTick.ite (t.giveUp_withinTick r) (WithinTick.refl t)) allResources s)
    (State.setSession_withinTick fun _ _ h => by cases h)

theorem State.closeAll_withinTick (s : State) : WithinTick s s.closeAll :=
  WithinTick.foldl _ (fun t p => WithinTick.ite (t.closeSession_withinTick p) (WithinTick.refl t)) allPorts s

theorem State.discardQueues_withinTick (s : State) (p : PortId) (kept : Nat) : WithinTick s (s.discardQueues p kept) :=
  .of_others rfl

theorem State.discardAll_withinTick (s : State) (p : PortId) : WithinTick s (s.discardAll p) :=
  WithinTick.foldl _ (fun t q => t.discardQueues_withinTick q _) allPorts s

theorem State.setPort_withinTick (s : State) (p : PortId) (q : Port) : WithinTick s (s.setPort p q) := .of_others rfl

theorem State.expire_withinTick (s : State) (p : PortId) : WithinTick s (s.expire p) :=
  WithinTick.trans _ _ _ (WithinTick.trans _ _ _ (s.closeSession_withinTick p) (State.discardQueues_withinTick _ p 0))
    (State.setPort_withinTick _ p _)

theorem State.takeExpiry_withinTick (s : State) (p : PortId) : WithinTick s (s.takeExpiry p) :=
  WithinTick.ite (s.expire_withinTick p) (WithinTick.refl s)

theorem State.taken_withinTick (s : State) (p : PortId) : WithinTick s (s.taken p) :=
  { WithinTick.refl s with took := fun _ => rfl }

theorem State.deposit_withinTick (s : State) (p : PortId) (r : Response) : WithinTick s (s.deposit p r) := .of_others rfl

/-- DEVICE_RESET keeps the samples of the tick, and leaves no pulse and no burst (R142, log entry 34). -/
theorem State.resetBlocks_withinTick (s : State) : WithinTick s s.resetBlocks :=
  { WithinTick.refl s with
    sampledAB := fun n h => by rw [State.axis, State.resetBlocks, Bank.read_mapAll]; exact h
    sampledZ := fun n h => by rw [State.axis, State.resetBlocks, Bank.read_mapAll]; exact h
    sampled := fun l h => by rw [State.trigLine, State.resetBlocks, Bank.read_mapAll]; exact h
    pulse := fun _ => rfl
    gates := fun g _ => by rw [State.gate, State.resetBlocks, Bank.read_replicate]; rfl
    steps := fun c _ => by rw [State.channel, State.resetBlocks, Bank.read_replicate]; exact fun _ => rfl }

end Sys2Proof.Machine

/-! ## The window of the log (O5) -/

namespace Sys2Proof.Machine

/-! ### The numbering of the window (R5, R7) -/

/-- A run of records goes on with the record whose number is next. -/
theorem consecutive_append {seq : Seq} {l : List Record} {r : Record} :
    consecutive seq (l ++ [r]) ↔ consecutive seq l ∧ r.seq = seq + BitVec.ofNat 32 l.length := by
  induction l generalizing seq with
  | nil => simp [consecutive]
  | cons x l ih =>
    have hn : seq + 1 + BitVec.ofNat 32 l.length = seq + BitVec.ofNat 32 (l.length + 1) := by
      rw [BitVec.ofNat_add, BitVec.add_comm (BitVec.ofNat 32 l.length), BitVec.add_assoc]
      rfl
    simp only [List.cons_append, consecutive, ih, List.length_cons, hn, and_assoc]

/-- The distance of a number from another, added to it, gives the number back (R6). -/
theorem add_distance (x r : Seq) : r + BitVec.ofNat 32 (distance x r) = x := by
  unfold distance
  bv_omega

theorem distance_succ {x r : Seq} (h : distance x r < 256) : distance (x + 1) r = distance x r + 1 := by
  unfold distance at *
  bv_omega

theorem distance_of_succ {x r : Seq} (h : 256 ≤ distance x r) : distance x (r + 1) = distance x r - 1 := by
  unfold distance at *
  bv_omega

/-- With room in the window, the record appended at the head keeps it (R7). -/
theorem CaptureLog.ok_append {l : CaptureLog} (h : l.ok) (hroom : l.held < 256) (c : Capture) :
    CaptureLog.ok { l with records := l.records ++ [c.record l.head], head := l.head + 1 } := by
  obtain ⟨hlen, -, hseq, hdrops⟩ := h
  have hheld : distance (l.head + 1) l.tail = l.held + 1 := distance_succ hroom
  refine ⟨?_, ?_, ?_, hdrops⟩
  · simp only [List.length_append, List.length_singleton, CaptureLog.held, hheld, hlen]
  · change distance (l.head + 1) l.tail ≤ 256
    omega
  · refine consecutive_append.mpr ⟨hseq, ?_⟩
    rw [hlen]
    exact (add_distance l.head l.tail).symm

/-- The record at the tail of a full window goes (R12). -/
theorem CaptureLog.ok_evict {l : CaptureLog} (h : l.ok) (hfull : 256 ≤ l.held) :
    CaptureLog.ok { l with records := l.records.tail, tail := l.tail + 1 } := by
  obtain ⟨hlen, hle, hseq, hdrops⟩ := h
  have hheld : distance l.head (l.tail + 1) = l.held - 1 := distance_of_succ hfull
  have hcap : l.held ≤ 256 := hle
  refine ⟨?_, ?_, ?_, hdrops⟩
  · simp only [List.length_tail, CaptureLog.held, hheld, hlen]
  · change distance l.head (l.tail + 1) ≤ 256
    omega
  · cases hr : l.records with
    | nil => trivial
    | cons r rest =>
      rw [hr] at hseq
      exact hseq.2

/-- A drop counts up to its limit (R15). -/
theorem CaptureLog.ok_drop {l : CaptureLog} (h : l.ok) :
    CaptureLog.ok { l with drops := saturate Config.counterLimit l.drops } := by
  obtain ⟨hlen, hle, hseq, hdrops⟩ := h
  exact ⟨hlen, hle, hseq, saturate_le hdrops⟩

/-- An empty window may stand anywhere (R22, R23). -/
theorem CaptureLog.ok_empty (seq : Seq) : CaptureLog.ok { records := [], head := seq, tail := seq, drops := 0 } := by
  have h : distance seq seq = 0 := by simp [distance]
  exact ⟨h.symm, by simp [CaptureLog.held, h], trivial, Nat.zero_le _⟩

/-! ### Captures at the log (R10) -/

/-- Whatever becomes of a capture request, the window stands (R10). -/
theorem State.capture_keepsWindow (s : State) (c : Capture) (h : s.log.ok) : (s.capture c).1.log.ok := by
  unfold State.capture
  split
  · next hroom =>
    change (s.write c).log.ok
    rw [s.write_log]
    exact CaptureLog.ok_append h hroom c
  · next hfull =>
    have hfull : 256 ≤ s.log.held := Nat.not_lt.mp hfull
    split
    · change s.drop.log.ok
      rw [s.drop_log]
      exact CaptureLog.ok_drop h
    · have hev : s.evict.log.ok := by
        rw [s.evict_log]
        exact CaptureLog.ok_evict h hfull
      have hle : s.log.held ≤ 256 := h.2.1
      have hroom : s.evict.log.held < 256 := by
        have hd := distance_of_succ hfull
        rw [s.evict_log]
        change distance s.log.head (s.log.tail + 1) < 256
        unfold CaptureLog.held at *
        omega
      change (s.evict.write c).log.ok
      rw [State.write_log]
      exact CaptureLog.ok_append hev hroom c

/-- The outcome that a requester receives leaves the log alone (R14). -/
theorem State.handOver_log (s : State) (c : Capture) : (s.handOver c).1.log = (s.capture c).1.log := by
  unfold State.handOver
  dsimp only
  split <;> rfl

theorem State.handOver_keepsWindow (s : State) (c : Capture) (h : s.log.ok) : (s.handOver c).1.log.ok := by
  rw [s.handOver_log]
  exact s.capture_keepsWindow c h

theorem State.arrive_keepsWindow (s : State) (now rest : List Capture) (h : s.log.ok) : (s.arrive now rest).log.ok :=
  foldl_preserves (fun t : State => t.log.ok) _ State.handOver_keepsWindow now _ h

theorem State.reachLog_keepsWindow {s t : State} (order : LogOrder) (ht : t.log = s.log) (h : s.log.ok) :
    (t.reachLog order).log.ok := t.arrive_keepsWindow _ _ (ht ▸ h)

/-! ### The requests -/

/-- A request that leaves the log as it is, and goes on within the tick. -/
def Server.KeepsLog (serve : Server) : Prop :=
  ∀ p payload s, Leaves (fun t => t.log = s.log ∧ WithinTick s t) (serve p payload s)

/-- A request that only reports. -/
theorem leaves_report {s : State} (payload : List Byte) :
    Leaves (fun t => t.log = s.log ∧ WithinTick s t) (.ok (payload, s)) := leaves_ok ⟨rfl, WithinTick.refl s⟩

/-- The idle timer of a new session has not reached its limit (R133, R135). -/
theorem Session.expiryDue_of_elapsed_zero {ses : Session} (h : ses.elapsed = 0) : ses.expiryDue = false := by
  simp only [Session.expiryDue, Session.limitTicks, Config.ticksPerMillisecond, h, decide_eq_false_iff_not]
  rintro ⟨hl, hz⟩
  exact hl (by bv_omega)

theorem openServer_keepsLog : Server.KeepsLog openServer := fun _ _ _ =>
  leaves_bind fun _ _ => leaves_bind fun _ _ => leaves_bind fun _ _ => leaves_bind fun _ _ => leaves_ok
    ⟨rfl, State.setSession_withinTick fun _ _ h => by cases h; exact Session.expiryDue_of_elapsed_zero rfl⟩

theorem closeServer_keepsLog : Server.KeepsLog closeServer := fun _ _ _ =>
  leaves_sessionRequest fun _ _ _ => leaves_ok ⟨State.closeSession_log _ _, State.closeSession_withinTick _ _⟩

theorem pingServer_keepsLog : Server.KeepsLog pingServer := fun _ _ _ => leaves_sessionRequest fun _ _ _ => leaves_report _

theorem deviceInfoServer_keepsLog : Server.KeepsLog deviceInfoServer := fun _ _ _ =>
  leaves_sessionRequest fun _ _ _ => leaves_report _

theorem claimServer_keepsLog : Server.KeepsLog claimServer := fun _ _ s =>
  leaves_sessionRequest fun _ _ _ => leaves_bind fun _ _ => leaves_bind fun _ _ => by
    split
    · exact leaves_ok ⟨rfl, s.setOwner_withinTick _ _⟩
    · split
      · exact leaves_report _
      · split
        · exact leaves_error _
        · split
          · exact leaves_ok ⟨(State.raiseTo_only _ _ _).log,
              WithinTick.trans _ _ _ (s.setOwner_withinTick _ _) (State.raiseTo_withinTick _ _ _)⟩
          · exact leaves_error _

theorem releaseServer_keepsLog : Server.KeepsLog releaseServer := fun _ _ s =>
  leaves_sessionRequest fun _ _ _ => leaves_bind fun r _ => leaves_bind fun _ _ => leaves_ok
    ⟨(s.giveUp_only r).log, s.giveUp_withinTick r⟩

theorem whoOwnsServer_keepsLog : Server.KeepsLog whoOwnsServer := fun _ _ _ =>
  leaves_sessionRequest fun _ _ _ => by
    unfold whoOwnsBody
    split
    · exact leaves_report _
    · exact leaves_bind fun _ _ => leaves_report _

theorem axisSetupServer_keepsLog : Server.KeepsLog axisSetupServer := fun _ _ _ =>
  leaves_sessionRequest fun _ _ _ => leaves_bind fun _ _ => leaves_bind fun _ _ => leaves_bind fun _ _ =>
    leaves_bind fun _ _ => leaves_bind fun _ _ => leaves_ok ⟨rfl,
      State.setAxis_withinTick ((Axis.setMode_sampledAB _ _).trans) ((Axis.setMode_sampledZ _ _).trans)⟩

theorem axisSpanServer_keepsLog : Server.KeepsLog axisSpanServer := fun _ _ _ =>
  leaves_sessionRequest fun _ _ _ => leaves_bind fun _ _ => leaves_bind fun _ _ => leaves_bind fun _ _ =>
    leaves_ok ⟨(State.offer_only _ _ _ _).log,
      State.setAxis_offer_withinTick _ _ (by rfl) (by rfl) _ _⟩

theorem axisPresetServer_keepsLog : Server.KeepsLog axisPresetServer := fun _ _ _ =>
  leaves_sessionRequest fun _ _ _ => leaves_bind fun _ _ => leaves_bind fun _ _ => leaves_bind fun _ _ =>
    leaves_bind fun _ _ => leaves_ok ⟨(State.offer_only _ _ _ _).log,
      State.setAxis_offer_withinTick _ _ (by rfl) (by rfl) _ _⟩

theorem axisClearFaultServer_keepsLog : Server.KeepsLog axisClearFaultServer := fun _ _ _ =>
  leaves_sessionRequest fun _ _ _ => leaves_bind fun _ _ => leaves_bind fun _ _ => leaves_bind fun _ _ =>
    leaves_bind fun _ _ => leaves_ok ⟨(State.offer_only _ _ _ _).log,
      State.setAxis_offer_withinTick _ _ (by rfl) (by rfl) _ _⟩

theorem axisReadServer_keepsLog : Server.KeepsLog axisReadServer := fun _ _ _ =>
  leaves_sessionRequest fun _ _ _ => leaves_bind fun _ _ => leaves_bind fun _ _ => leaves_report _

theorem timeReadServer_keepsLog : Server.KeepsLog timeReadServer := fun _ _ _ =>
  leaves_sessionRequest fun _ _ _ => leaves_report _

theorem alignArmServer_keepsLog : Server.KeepsLog alignArmServer := fun _ _ _ =>
  leaves_sessionRequest fun _ _ _ => leaves_bind fun _ _ => leaves_bind fun _ _ => leaves_ok ⟨rfl, State.setTime_withinTick _ _⟩

theorem alignCancelServer_keepsLog : Server.KeepsLog alignCancelServer := fun _ _ _ =>
  leaves_sessionRequest fun _ _ _ => leaves_bind fun _ _ => leaves_ok ⟨rfl, State.setTime_withinTick _ _⟩

theorem markSetupServer_keepsLog : Server.KeepsLog markSetupServer := fun _ _ _ =>
  leaves_sessionRequest fun _ _ _ => leaves_bind fun _ _ => leaves_bind fun _ _ => leaves_bind fun _ _ => leaves_ok
    ⟨rfl, State.setMark_withinTick fun h => h⟩

theorem markPulseServer_keepsLog : Server.KeepsLog markPulseServer := fun _ _ _ =>
  leaves_sessionRequest fun _ _ _ => leaves_bind fun _ _ => leaves_ok ⟨rfl, State.setMark_withinTick fun _ => rfl⟩

theorem trigLineFilterServer_keepsLog : Server.KeepsLog trigLineFilterServer := fun _ _ _ =>
  leaves_sessionRequest fun _ _ _ => leaves_bind fun _ _ => leaves_bind fun _ _ => leaves_ok ⟨rfl, State.setLine_withinTick fun h => h⟩

theorem trigArmServer_keepsLog : Server.KeepsLog trigArmServer := fun _ _ _ =>
  leaves_sessionRequest fun _ _ _ => leaves_bind fun _ _ => leaves_bind fun _ _ => leaves_bind fun _ _ => leaves_ok
    ⟨rfl, State.setChannel_withinTick fun _ _ => rfl⟩

theorem trigDisarmServer_keepsLog : Server.KeepsLog trigDisarmServer := fun _ _ s =>
  leaves_sessionRequest fun _ _ _ => leaves_bind fun c _ => leaves_bind fun _ _ => leaves_ok (by
    have h : WithinTick s (s.setChannel c (s.channel c).disarmed) := State.setChannel_withinTick fun _ _ => rfl
    split
    · exact ⟨(State.raiseToOwner_only _ _ _).log, WithinTick.trans _ _ _ h (State.raiseToOwner_withinTick _ _ _)⟩
    · exact ⟨rfl, h⟩)

theorem trigStatusServer_keepsLog : Server.KeepsLog trigStatusServer := fun _ _ _ =>
  leaves_sessionRequest fun _ _ _ => leaves_bind fun _ _ => leaves_report _

theorem State.setReader_levelCheck_log (s : State) (p : PortId) (r : Option Reader) :
    ((s.setReader p r).levelCheck p).log = s.log :=
  (State.levelCheck_only _ p).log.trans (s.setReader_only p r).log

theorem State.setReader_levelCheck_withinTick (s : State) (p : PortId) (r : Option Reader) :
    WithinTick s ((s.setReader p r).levelCheck p) :=
  WithinTick.trans _ _ _ (s.setReader_withinTick p r) (State.levelCheck_withinTick _ p)

theorem logSubscribeServer_keepsLog : Server.KeepsLog logSubscribeServer := fun p _ s =>
  leaves_sessionRequest fun _ _ _ => leaves_bind fun _ _ => leaves_bind fun _ _ => leaves_bind fun _ _ =>
    leaves_ok ⟨s.setReader_levelCheck_log p _, s.setReader_levelCheck_withinTick p _⟩

theorem logUnsubscribeServer_keepsLog : Server.KeepsLog logUnsubscribeServer := fun p _ s =>
  leaves_sessionRequest fun _ _ _ => leaves_bind fun _ _ =>
    leaves_ok ⟨(s.setReader_only p none).log, s.setReader_withinTick p none⟩

theorem logFetchServer_keepsLog : Server.KeepsLog logFetchServer := fun _ _ _ =>
  leaves_sessionRequest fun _ _ _ => leaves_bind fun _ _ => leaves_bind fun _ _ => leaves_report _

theorem logReleaseServer_keepsLog : Server.KeepsLog logReleaseServer := fun p _ s =>
  leaves_sessionRequest fun _ _ _ => leaves_bind fun _ _ => by
    dsimp only
    split
    · exact leaves_error _
    · exact leaves_report _
    · exact leaves_ok ⟨s.setReader_levelCheck_log p _, s.setReader_levelCheck_withinTick p _⟩

theorem logStatusServer_keepsLog : Server.KeepsLog logStatusServer := fun _ _ _ =>
  leaves_sessionRequest fun _ _ _ => by
    unfold logStatusBody
    dsimp only
    split <;> exact leaves_report _

theorem cmpSetupServer_keepsLog : Server.KeepsLog cmpSetupServer := fun _ _ s =>
  leaves_sessionRequest fun _ _ _ => leaves_bind fun e _ => leaves_bind fun _ _ => leaves_bind fun _ _ =>
    leaves_bind fun _ _ => leaves_bind fun _ _ => leaves_bind fun _ _ => leaves_bind fun _ _ =>
      leaves_ok
      ⟨(s.replaceEntry_only e _).log, s.replaceEntry_withinTick e _⟩

theorem cmpEnableServer_keepsLog : Server.KeepsLog cmpEnableServer := fun _ _ s =>
  leaves_sessionRequest fun _ _ _ => leaves_bind fun e _ => leaves_bind fun _ _ => leaves_ok
      ⟨(s.replaceEntry_only e _).log, s.replaceEntry_withinTick e _⟩

theorem cmpDisableServer_keepsLog : Server.KeepsLog cmpDisableServer := fun _ _ s =>
  leaves_sessionRequest fun _ _ _ => leaves_bind fun e _ => leaves_bind fun _ _ => leaves_ok
      ⟨(s.replaceEntry_only e _).log, s.replaceEntry_withinTick e _⟩

theorem cmpStatusServer_keepsLog : Server.KeepsLog cmpStatusServer := fun _ _ _ =>
  leaves_sessionRequest fun _ _ _ => leaves_bind fun _ _ => leaves_report _

theorem gateSetupServer_keepsLog : Server.KeepsLog gateSetupServer := fun _ _ _ =>
  leaves_sessionRequest fun _ _ _ => leaves_bind fun _ _ => leaves_bind fun _ _ => leaves_bind fun _ _ =>
    leaves_bind fun _ _ => leaves_bind fun _ _ => leaves_bind fun _ _ => leaves_ok
      ⟨rfl, State.setGate_withinTick fun _ => rfl⟩

theorem gateSetServer_keepsLog : Server.KeepsLog gateSetServer := fun _ _ _ =>
  leaves_sessionRequest fun _ _ _ => leaves_bind fun _ _ => leaves_bind fun _ _ => leaves_bind fun _ _ => leaves_ok
    ⟨rfl, State.setGate_withinTick fun h => h⟩

theorem gateStatusServer_keepsLog : Server.KeepsLog gateStatusServer := fun _ _ _ =>
  leaves_sessionRequest fun _ _ _ => leaves_bind fun _ _ => leaves_report _

theorem eventMaskServer_keepsLog : Server.KeepsLog eventMaskServer := fun _ _ _ =>
  leaves_sessionRequest fun _ hs _ => leaves_bind fun _ _ => leaves_ok ⟨rfl, State.setSession_sameTimer_withinTick hs rfl rfl⟩

theorem eventReadServer_keepsLog : Server.KeepsLog eventReadServer := fun _ _ _ =>
  leaves_sessionRequest fun _ _ _ => leaves_report _

theorem eventAckServer_keepsLog : Server.KeepsLog eventAckServer := fun _ _ _ =>
  leaves_sessionRequest fun _ hs _ => leaves_bind fun _ _ => leaves_ok ⟨rfl, State.setSession_sameTimer_withinTick hs rfl rfl⟩

/-- A request that keeps the window of the log, and goes on within the tick. -/
def Server.KeepsWindow (serve : Server) : Prop :=
  ∀ p payload s, Leaves (fun t => (s.log.ok → t.log.ok) ∧ WithinTick s t) (serve p payload s)

theorem Server.KeepsLog.keepsWindow {serve : Server} (h : Server.KeepsLog serve) : Server.KeepsWindow serve := by
  intro p payload s bytes t ht
  obtain ⟨hlog, htick⟩ := h p payload s bytes t ht
  exact ⟨fun hs => hlog ▸ hs, htick⟩

theorem deviceResetServer_keepsWindow : Server.KeepsWindow deviceResetServer := fun _ _ s =>
  leaves_sessionRequest fun _ _ _ => leaves_bind fun _ _ =>
    leaves_ok ⟨fun _ => CaptureLog.ok_empty _, WithinTick.trans _ _ _ s.closeAll_withinTick (State.resetBlocks_withinTick _)⟩

theorem snapServer_keepsWindow : Server.KeepsWindow snapServer := fun _ _ s =>
  leaves_sessionRequest fun _ _ _ => leaves_bind fun _ _ => leaves_bind fun _ _ => leaves_bind fun _ _ => by
    dsimp only
    split
    · exact leaves_ok ⟨s.capture_keepsWindow _, s.capture_withinTick _⟩
    · exact leaves_ok ⟨id, WithinTick.refl s⟩

theorem require_ok {b : Bool} {code : ResultCode} {u : Unit} (h : require b code = .ok u) : b = true := by
  cases b
  · cases h
  · rfl

/-- A channel that TRIG_SETUP may configure has no burst (R47). -/
theorem Channel.stepTaken_of_idle {x : Channel} (h : x.state = .disarmed ∨ x.state = .spent) : x.StepTaken := by
  intro hb
  rw [hb] at h
  rcases h with h | h <;> cases h

theorem trigSetupServer_keepsWindow : Server.KeepsWindow trigSetupServer := fun _ _ s =>
  leaves_sessionRequest fun _ _ _ => leaves_bind fun c _ => leaves_bind fun _ _ => leaves_bind fun _ _ =>
    leaves_bind fun _ hidle => leaves_ok ⟨s.arrive_keepsWindow _ _, WithinTick.trans _ _ _ (s.arrive_withinTick _ _)
      (State.setChannel_withinTick fun _ =>
        Channel.stepTaken_of_idle (x := s.channel c) (decide_eq_true_eq.mp (require_ok hidle)))⟩

theorem trigFireServer_keepsWindow : Server.KeepsWindow trigFireServer := fun _ _ s =>
  leaves_sessionRequest fun _ _ _ => leaves_bind fun c _ => leaves_bind fun _ _ => leaves_bind fun _ _ =>
    leaves_ok ⟨fun hs => State.handOver_keepsWindow _ _ ((s.fire_only c).log ▸ hs),
      WithinTick.trans _ _ _ (s.fire_withinTick c) (State.handOver_withinTick _ _)⟩

/-- Every request of the table keeps the window of the log. -/
theorem requestTable_keepsWindow : ∀ e ∈ requestTable, Server.KeepsWindow e.2 := by
  simp only [requestTable, List.forall_mem_cons]
  exact ⟨openServer_keepsLog.keepsWindow, closeServer_keepsLog.keepsWindow, pingServer_keepsLog.keepsWindow,
    deviceInfoServer_keepsLog.keepsWindow, deviceResetServer_keepsWindow, claimServer_keepsLog.keepsWindow,
    releaseServer_keepsLog.keepsWindow, whoOwnsServer_keepsLog.keepsWindow, axisSetupServer_keepsLog.keepsWindow,
    axisSpanServer_keepsLog.keepsWindow, axisPresetServer_keepsLog.keepsWindow, axisClearFaultServer_keepsLog.keepsWindow,
    axisReadServer_keepsLog.keepsWindow, snapServer_keepsWindow, timeReadServer_keepsLog.keepsWindow,
    alignArmServer_keepsLog.keepsWindow, alignCancelServer_keepsLog.keepsWindow, markSetupServer_keepsLog.keepsWindow,
    markPulseServer_keepsLog.keepsWindow, trigSetupServer_keepsWindow, trigLineFilterServer_keepsLog.keepsWindow,
    trigArmServer_keepsLog.keepsWindow, trigDisarmServer_keepsLog.keepsWindow, trigFireServer_keepsWindow,
    trigStatusServer_keepsLog.keepsWindow, logSubscribeServer_keepsLog.keepsWindow,
    logUnsubscribeServer_keepsLog.keepsWindow, logFetchServer_keepsLog.keepsWindow, logReleaseServer_keepsLog.keepsWindow,
    logStatusServer_keepsLog.keepsWindow, cmpSetupServer_keepsLog.keepsWindow, cmpEnableServer_keepsLog.keepsWindow,
    cmpDisableServer_keepsLog.keepsWindow, cmpStatusServer_keepsLog.keepsWindow, gateSetupServer_keepsLog.keepsWindow,
    gateSetServer_keepsLog.keepsWindow, gateStatusServer_keepsLog.keepsWindow, eventMaskServer_keepsLog.keepsWindow,
    eventReadServer_keepsLog.keepsWindow, eventAckServer_keepsLog.keepsWindow, List.forall_mem_nil _⟩

theorem State.takeNextRequest_keepsWindow (s : State) (h : s.log.ok) : s.takeNextRequest.log.ok :=
  State.takeNextRequest_preserves (P := fun t => t.log.ok) (fun _ _ h => h) (fun _ _ _ h => h)
    (fun t h => t.arrive_keepsWindow _ _ h) (fun t p h => (t.discardAll_log p).symm ▸ h)
    (fun e he p payload t ht bytes u hu => (requestTable_keepsWindow e he p payload t bytes u hu).1 ht) s h

theorem State.takeNextRequest_withinTick (s : State) : WithinTick s s.takeNextRequest :=
  State.takeNextRequest_preserves (P := WithinTick s) (fun t p h => WithinTick.trans _ _ _ h (t.taken_withinTick p))
    (fun t p r h => WithinTick.trans _ _ _ h (t.deposit_withinTick p r))
    (fun t h => WithinTick.trans _ _ _ h (t.arrive_withinTick _ _))
    (fun t p h => WithinTick.trans _ _ _ h (t.discardAll_withinTick p))
    (fun e he p payload t ht bytes u hu => WithinTick.trans _ _ _ ht (requestTable_keepsWindow e he p payload t bytes u hu).2) s
    (WithinTick.refl s)

/-! ### The tick and the step -/

@[simp] theorem State.beginTick_log (s : State) : s.beginTick.log = s.log := rfl

theorem State.finishTick_keepsWindow (s : State) (h : s.log.ok) : s.finishTick.log.ok := by
  have field : ∀ t : State, t.log = s.log → t.allReachLog.log.ok := fun t ht => t.arrive_keepsWindow _ _ (ht ▸ h)
  unfold State.finishTick
  dsimp only
  refine State.arrive_keepsWindow _ _ _ ?_
  rw [(State.sampleMarkLeft_only _).log]
  refine State.takeNextRequest_keepsWindow _ ?_
  rw [State.expiriesLast_log]
  refine State.takeNextRequest_keepsWindow _ ?_
  rw [State.expiriesLeft_log]
  refine field _ ?_
  rw [(State.gatePulseEndsLeft_only _).onlyAxis.log, (State.burstStepsLeft_only _).log, (State.sampleLinesLeft_only _).log,
    (State.sampleAxesLeft_only _).log, s.takeMarkPulseEnd_only.log]

/-- A happening that is no request keeps the window of the log. -/
theorem exec_keepsWindow_of_happening {c : Instr} {s t : State} (hc : requestOf c = none) (h : s.log.ok)
    (ht : exec c s = .next t) : t.log.ok := by
  cases c with
  | pinReset => cases ht; exact CaptureLog.ok_empty 0
  | portUnblock p => cases ht; rwa [s.unblock_log]
  | transactionBegin p => cases ht; rwa [s.beginTransaction_log]
  | statusByteShifted p received => cases ht; rwa [s.showStatus_log]
  | responseDelivered p received => cases ht; rwa [s.deliverResponse_log]
  | transactionEnd p received => cases ht; rwa [s.endTransaction_log]
  | sessionExpiry p => cases ht; rwa [s.takeExpiry_log]
  | axisLevelChange n input => cases ht; exact State.reachLog_keepsWindow _ (s.showAxis_only n input).log h
  | gatePulseEnd g => cases ht; rwa [(s.takeGatePulseEnd_only g).onlyAxis.log]
  | trigLevelChange l raw channels => cases ht; exact State.reachLog_keepsWindow _ (s.showTrigLine_only l raw _).log h
  | burstStep step => cases ht; exact State.reachLog_keepsWindow _ (s.takeBurstStep_only _).log h
  | markPulseEnd => cases ht; rwa [s.takeMarkPulseEnd_only.log]
  | recognisedEdge events log => cases ht; exact State.reachLog_keepsWindow _ (s.takeRecognisedEdge_only events).log h
  | recognizerRearm => cases ht; rwa [s.takeRearm_only.log]
  | markLineChange outside => cases ht; exact h
  | tickCountAdvance =>
    have he : s.finishTick.beginTick = t := Host.Outcome.next.inj ht
    rw [← he, State.beginTick_log]
    exact s.finishTick_keepsWindow h
  | _ => cases hc

theorem exec_keepsWindow {c : Instr} {s t : State} (h : s.log.ok) (ht : exec c s = .next t) : t.log.ok := by
  cases hc : requestOf c with
  | none => exact exec_keepsWindow_of_happening hc h ht
  | some request =>
    rcases exec_request_cases hc s with he | he <;> rw [he] at ht <;> cases ht
    · exact h
    · exact s.takeNextRequest_keepsWindow h

/-- Settles O5: only the taking of captures, DEVICE_RESET and PIN_RESET touch the log, and each keeps the window. -/
theorem stepKeepsTheLogWindow : Obligations.StepKeepsTheLogWindow := by
  intro s t h ht
  unfold step at ht
  split at ht
  · cases ht
    exact h
  · next c rest _ => exact exec_keepsWindow (s := { s with pending := rest }) h ht

end Sys2Proof.Machine

/-! ## The three outcomes of a capture request (O18) -/

namespace Sys2Proof.Machine

/-- A write without an eviction is, for a session, the level check at the new head (R11). -/
theorem Session.afterWrite_false (tail head : Seq) (ses : Session) :
    ses.afterWrite false tail head = ses.levelChecked (head + 1) := by
  unfold Session.afterWrite Session.levelChecked
  generalize head + 1 = next
  obtain ⟨rank, idleLimit, elapsed, mask, records, reader⟩ := ses
  cases reader with
  | none => rfl
  | some r =>
    obtain ⟨mode, cursor, watermark, level, lost⟩ := r
    rcases Nat.lt_or_ge (distance next cursor) watermark with hw | hw
    · simp [hw]
    · cases level <;> simp [hw, Nat.not_lt.mpr hw]

/-- With an eviction a reader that stood at the tail is lapped first (R12). -/
theorem Session.afterWrite_true (tail head : Seq) (ses : Session) :
    ses.afterWrite true tail head = (ses.lapped tail).levelChecked (head + 1) := by
  rw [← Session.afterWrite_false tail head]
  unfold Session.afterWrite Session.lapped
  cases hr : ses.reader with
  | none => simp [hr]
  | some r =>
    by_cases hl : r.mode = .lossy ∧ r.cursor = tail
    · simp [hl]
    · simp [hl, hr]

theorem State.raiseToReaders_logDrop_session (s : State) (q : PortId) :
    (s.raiseToReaders .logDrop).session q = (s.session q).map Session.afterDrop := by
  refine foldl_ports_session (fun _ => ()) (fun _ => Session.afterDrop) _ (fun _ _ => rfl) (fun t p q => ?_) s q
  rw [State.reader_eq]
  by_cases hq : q = p
  · subst hq
    cases hs : t.session q with
    | none => simp [hs]
    | some ses =>
      cases hr : ses.reader <;> simp [hr, hs, Session.afterDrop, State.raiseTo_session, Session.filed]
  · split <;> simp [hq, State.raiseTo_session]

/-- A KEEP reader pins the tail exactly when one stands there (R10). -/
theorem State.tailPinned_iff (s : State) :
    s.tailPinned = true ↔ ∃ p r, s.reader p = some r ∧ r.mode = .keep ∧ r.cursor = s.log.tail := by
  simp only [State.tailPinned, List.any_eq_true, mem_allPorts, true_and]
  refine exists_congr fun p => ?_
  cases s.reader p <;> simp

theorem State.capture_of_room {s : State} (h : s.log.held < Config.logCapacity) (c : Capture) :
    s.capture c = (s.write c, some s.log.head) := if_pos h

theorem State.capture_of_pinned {s : State} (h : ¬s.log.held < Config.logCapacity) (hp : s.tailPinned = true) (c : Capture) :
    s.capture c = (s.drop, none) := by
  rw [State.capture, if_neg h, if_pos hp]

theorem State.capture_of_full {s : State} (h : ¬s.log.held < Config.logCapacity) (hp : ¬s.tailPinned = true) (c : Capture) :
    s.capture c = (s.evict.write c, some s.log.head) := by
  rw [State.capture, if_neg h, if_neg hp]

/-- Settles O18, by the three outcomes of R10. -/
theorem captureIsWrittenEvictedOrDropped : Obligations.CaptureIsWrittenEvictedOrDropped := by
  intro s c
  refine ⟨s.capture_only c, fun hroom => ?_, fun hfull hpin => ?_, fun hfull hpin => ?_⟩
  · rw [State.capture_of_room hroom]
    refine ⟨rfl, s.write_log c, fun p => ?_⟩
    dsimp only
    rw [s.write_session, ← funext (Session.afterWrite_false s.log.tail s.log.head)]
  · rw [State.capture_of_pinned (Nat.not_lt.mpr hfull) (s.tailPinned_iff.mpr hpin)]
    refine ⟨rfl, s.drop_log, fun p => ?_⟩
    exact State.raiseToReaders_logDrop_session _ p
  · rw [State.capture_of_full (Nat.not_lt.mpr hfull) (fun h => hpin (s.tailPinned_iff.mp h))]
    refine ⟨rfl, ?_, fun p => ?_⟩
    · dsimp only
      rw [State.write_log, s.evict_log]
      rfl
    · dsimp only
      rw [State.write_session, s.evict_session, s.evict_log, Option.map_map]
      exact congrArg (fun f => (s.session p).map f) (funext fun ses => (ses.afterWrite_true s.log.tail s.log.head).symm)

end Sys2Proof.Machine

/-! ## The state after reset (O3, O4) -/

namespace Sys2Proof.Machine

/-! ### The units of a reset part -/

@[simp] theorem State.reset_axis (n : AxisId) : State.reset.axis n = Axis.reset := Bank.read_replicate _ _
@[simp] theorem State.reset_trigLine (l : LineId) : State.reset.trigLine l = TrigLine.reset := Bank.read_replicate _ _
@[simp] theorem State.reset_channel (c : ChannelId) : State.reset.channel c = Channel.reset := Bank.read_replicate _ _
@[simp] theorem State.reset_entry (e : EntryId) : State.reset.entry e = Entry.reset := Bank.read_replicate _ _
@[simp] theorem State.reset_gate (g : GateId) : State.reset.gate g = Gate.reset := Bank.read_replicate _ _
@[simp] theorem State.reset_session (p : PortId) : State.reset.session p = none := Bank.read_replicate _ _
@[simp] theorem State.reset_owner (r : Resource) : State.reset.owner r = none := Bank.read_replicate _ _
@[simp] theorem State.reset_port (p : PortId) : State.reset.port p = Port.reset := Bank.read_replicate _ _

theorem State.pinReset_axis (s : State) (n : AxisId) : s.pinReset.axis n = (s.axis n).pinReset := Bank.read_mapAll s.axes _ n

theorem State.pinReset_trigLine (s : State) (l : LineId) : s.pinReset.trigLine l = (s.trigLine l).pinReset :=
  Bank.read_mapAll s.lines _ l

/-- Settles O3, unit by unit. -/
theorem pinResetLeavesInitialValues : Obligations.PinResetLeavesInitialValues := by
  intro s
  refine ⟨s.pinReset, rfl, rfl, State.reset_session, State.reset_owner, rfl, ⟨rfl, rfl, rfl, rfl, rfl, rfl, rfl⟩, fun n => ?_,
    fun l => ?_, State.reset_channel, State.reset_entry, State.reset_gate, State.reset_port, rfl, rfl, rfl, rfl⟩
  · rw [s.pinReset_axis]
    exact ⟨⟨rfl, rfl, rfl, rfl, rfl, rfl, rfl, rfl, rfl, rfl⟩, ⟨rfl, rfl, rfl⟩, rfl, rfl, rfl⟩
  · rw [s.pinReset_trigLine]
    exact ⟨rfl, rfl, rfl, rfl⟩

/-! ### The invariants at reset -/

theorem ChannelConfig.reset_ok (c : ChannelId) : ChannelConfig.reset.ok c := by
  refine ⟨by decide, by decide, by decide, by decide, ?_⟩
  simp [inSet, ChannelConfig.reset]

theorem Channel.reset_ok (c : ChannelId) : Channel.reset.ok c :=
  ⟨ChannelConfig.reset_ok c, by decide, by decide, by decide, by decide, by decide, by decide⟩

theorem Axis.reset_ok : Axis.reset.ok :=
  ⟨by decide, by decide, by decide, by decide, by decide, by decide, by decide, by decide, by decide⟩

theorem Entry.reset_ok (s : State) : Entry.reset.ok s :=
  ⟨fun _ => rfl, nofun, by decide, by decide, fun _ => rfl⟩

theorem Gate.reset_ok (s : State) : Gate.reset.ok s :=
  ⟨rfl, fun _ => rfl, by decide, by decide, by decide, nofun⟩

theorem MarkUnit.reset_ok : MarkUnit.reset.ok := ⟨by decide, by decide, by decide, by decide, by decide⟩

theorem Port.reset_ok : Port.reset.ok := ⟨by decide, fun _ _ h => by cases h⟩

/-- Settles O4: every unit meets its invariant at reset, and no session is open. -/
theorem resetMeetsEveryInvariant : Obligations.ResetMeetsEveryInvariant where
  log := CaptureLog.ok_empty 0
  readers := by simp [State.readersOk, State.reader]
  channels c := by simpa using Channel.reset_ok c
  axes n := by simpa using Axis.reset_ok
  entries e := by simpa using Entry.reset_ok _
  gates g := by simpa using Gate.reset_ok _
  mark := MarkUnit.reset_ok
  time := fun _ => rfl
  ranks := by simp [State.ranksDistinct]
  owners := by simp [State.ownersOpen]
  timers := by simp [State.timersOk]
  records := by simp [State.recordsOk]
  parked := ⟨fun c _ => by rw [State.reset_channel]; rfl, fun e _ => by rw [State.reset_entry]; rfl,
    fun g _ => by rw [State.reset_gate]; exact ⟨rfl, rfl⟩, fun _ => rfl⟩
  ports p := by simpa using Port.reset_ok

end Sys2Proof.Machine

/-! ## Orders of the log, events to owners, and the answers of requests -/

namespace Sys2Proof.Machine

/-! ### The order in which captures reach the log (R9, log entry 3) -/

/-- A command's order brings captures to the log as it names them, and leaves the last under way. -/
theorem State.reachLog_reached (u : State) (log : LogOrder) : u.reached log (u.reachLog log) := by
  obtain ⟨now, rest, hp, hl, he⟩ := u.reachLog_eq log
  exact ⟨now, rest, ⟨hp, he⟩, hl⟩

/-- A command that ends with the arrivals its order names can bring about every order. -/
theorem everyOrder_of_exec {s u : State} {c : LogOrder → Instr} (h : ∀ log, exec (c log) s = .next (u.reachLog log)) :
    s.everyOrder u c := by
  rintro now rest t hn ⟨hp, rfl⟩
  rw [h]
  exact congrArg _ (State.reachLog_names hp hn)

/-- A command that leaves as many captures under way as there are brings none to the log. -/
theorem State.reachLog_leaving (s : State) : s.reachLog { first := [], later := s.underway.length } = s := by
  simp [State.reachLog, arranged, State.arrive]

/-! ### Events to owners (R152) -/

/-- A raising to the owner of a resource files in its session, and does nothing else. -/
theorem State.raiseToOwner_session (s : State) (r : Resource) (ev : Event) (q : PortId) :
    (s.raiseToOwner r ev).session q = if s.owner r = some q then (s.session q).map (Session.filed ev) else s.session q := by
  cases h : s.owner r with
  | none => simp [State.raiseToOwner_of_none ev h]
  | some p =>
    rw [State.raiseToOwner_of_some ev h, State.raiseTo_session]
    simp only [Option.some.injEq, eq_comm (a := p)]

theorem OnlySessions.channel {s t : State} (h : OnlySessions s t) (c : ChannelId) : t.channel c = s.channel c := by
  rw [h]; rfl

theorem OnlySessions.underway {s t : State} (h : OnlySessions s t) : t.underway = s.underway := by rw [h]

/-! ### The answer of a request (R171, R172) -/

/-- A response deposited by an operation that leaves the queues as the taking left them answers the request. -/
theorem State.answered_deposit {s t : State} {p : PortId} (r : Response) (hp : t.ports = (s.taken p).ports)
    (he : t.executor = (s.taken p).executor) : s.answered p r (t.deposit p r) := by
  have hport : ∀ q, t.port q = (s.taken p).port q := fun q => by rw [State.port, hp, State.port]
  refine ⟨?_, fun q hq => ?_, he⟩
  · rw [State.deposit_port_same, hport, State.taken_port_same]
  · rw [State.deposit_port_ne _ r hq, hport, State.taken_port_ne _ hq]

/-- A request that its server refuses is refused, and nothing else changes (R172). -/
theorem refused_of_error {s : State} {p : PortId} {code tag : Byte} {payload : List Byte} {serve : Server}
    {result : ResultCode} (h : s.nextRequest = some (p, { command := code, tag := tag, payload := payload }))
    (he : serve p payload (s.taken p) = .error result) :
    s.refused p code tag result (executorTakes p { command := code, tag := tag, payload := payload } serve s) := by
  rw [executorTakes_of_error h he]
  exact ⟨State.answered_deposit _ rfl rfl, rfl⟩

/-- One check of a request: where it fails the request is refused, where it holds the rest of the server answers. -/
theorem refused_ite {s : State} {p : PortId} {code tag : Byte} {payload : List Byte} {serve : Server} {result : ResultCode}
    {b : Prop} [Decidable b] {rest : Answer} {Q : Prop}
    (h : s.nextRequest = some (p, { command := code, tag := tag, payload := payload }))
    (he : serve p payload (s.taken p) = if b then .error result else rest)
    (hr : ¬b → serve p payload (s.taken p) = rest → Q) :
    if b then s.refused p code tag result (executorTakes p { command := code, tag := tag, payload := payload } serve s)
    else Q := by
  by_cases hb : b
  · rw [if_pos hb] at he ⊢
    exact refused_of_error h he
  · rw [if_neg hb] at he ⊢
    exact hr hb he

/-- An accepted request that leaves the queues alone is answered OK with its payload (R172). -/
theorem answered_of_ok {s t : State} {p : PortId} {code tag : Byte} {payload bytes : List Byte} {serve : Server}
    (h : s.nextRequest = some (p, { command := code, tag := tag, payload := payload })) (hc : code ≠ codeTimeRead)
    (he : serve p payload (s.taken p) = .ok (bytes, t)) (hp : t.ports = (s.taken p).ports)
    (hx : t.executor = (s.taken p).executor) :
    s.answered p { command := code, tag := tag, result := .ok, payload := bytes }
      (executorTakes p { command := code, tag := tag, payload := payload } serve s) := by
  rw [executorTakes_of_ok h he, decide_eq_false hc]
  exact State.answered_deposit _ hp hx

/-- An accepted request that changes nothing is only answered (R172). -/
theorem onlyAnswered_of_ok {s : State} {p : PortId} {code tag : Byte} {payload bytes : List Byte} {serve : Server}
    (h : s.nextRequest = some (p, { command := code, tag := tag, payload := payload })) (hc : code ≠ codeTimeRead)
    (he : serve p payload (s.taken p) = .ok (bytes, s.taken p)) :
    s.onlyAnswered p { command := code, tag := tag, result := .ok, payload := bytes }
      (executorTakes p { command := code, tag := tag, payload := payload } serve s) := by
  refine ⟨answered_of_ok h hc he rfl rfl, ?_⟩
  rw [executorTakes_of_ok h he]
  rfl

/-! ### What a taken request finds -/

@[simp] theorem State.taken_stamp (s : State) (p : PortId) : (s.taken p).stamp = s.stamp := rfl
@[simp] theorem State.taken_session (s : State) (p q : PortId) : (s.taken p).session q = s.session q := rfl
@[simp] theorem State.taken_sampleAxes (s : State) (p : PortId) (set : AxisSet) :
    (s.taken p).sampleAxes set = s.sampleAxes set := rfl

@[simp] theorem State.deposit_session (s : State) (p q : PortId) (r : Response) : (s.deposit p r).session q = s.session q := rfl

/-! ### The checks of a request, one after the other (R173, R177) -/

@[simp] theorem ok_bind {α : Type} (v : α) {β : Type} (k : α → Checked β) : ((Except.ok v : Checked α) >>= k) = k v := rfl

/-- A check that fails ends the request with its code, before what follows. -/
@[simp] theorem ite_error_bind {α β : Type} (b : Prop) [Decidable b] (code : ResultCode) (x : Checked α) (k : α → Checked β) :
    ((if b then .error code else x) >>= k) = if b then .error code else x >>= k := by
  split <;> rfl

theorem require_bind {α : Type} (b : Prop) [Decidable b] (code : ResultCode) (k : Unit → Checked α) :
    (require (decide b) code >>= k) = if ¬b then .error code else k () := by
  by_cases h : b <;> simp [h]

/-- Step 6: a requester that does not own the resource is refused (R149). -/
theorem requireOwner_bind {α : Type} (s : State) (p : PortId) (r : Resource) (k : Unit → Checked α) :
    (requireOwner s p r >>= k) = if s.owner r ≠ some p then .error .notOwner else k () :=
  require_bind _ _ k

/-- A number field is refused at its range and above (R177). -/
theorem idField_eq (n : Nat) [NeZero n] (payload : List Byte) (off : Nat) :
    idField n payload off =
      if n ≤ (byteAt payload off).toNat then .error .outOfRange else .ok (Fin.ofNat n (byteAt payload off).toNat) := by
  unfold idField
  by_cases h : (byteAt payload off).toNat < n
  · rw [dif_pos h, if_neg (Nat.not_le.mpr h)]
    exact congrArg _ (Fin.ext (Nat.mod_eq_of_lt h).symm)
  · rw [dif_neg h, if_pos (Nat.not_lt.mp h)]

/-- A set field is refused when it names what is not there (R177). -/
theorem setField_eq (n bytes : Nat) (payload : List Byte) (off : Nat) :
    setField n bytes payload off =
      if 2 ^ n ≤ natAt payload off bytes then .error .badValue else .ok (BitVec.ofNat n (natAt payload off bytes)) := by
  unfold setField
  by_cases h : natAt payload off bytes < 2 ^ n
  · rw [if_pos h, if_neg (Nat.not_le.mpr h)]
  · rw [if_neg h, if_pos (Nat.not_lt.mp h)]

/-- A flag byte is 0 or 1, and every other one is refused (R177). -/
theorem flagField_eq (payload : List Byte) (off : Nat) :
    flagField payload off =
      if 1 < (byteAt payload off).toNat then .error .badValue else .ok (decide (byteAt payload off = 1)) := by
  unfold flagField codeField flag?
  generalize byteAt payload off = b
  by_cases h0 : b = 0
  · subst h0; rfl
  · by_cases h1 : b = 1
    · subst h1; rfl
    · have hb : 1 < b.toNat := by bv_omega
      rw [if_neg h0, if_neg h1, if_pos hb]

/-- One byte of a payload, read as a number. -/
theorem natAt_one (payload : List Byte) (off : Nat) (b : Byte) (h : (payload.drop off).head? = some b) :
    natAt payload off 1 = b.toNat := by
  unfold natAt
  cases hd : payload.drop off with
  | nil => rw [hd] at h; cases h
  | cons x rest =>
    rw [hd] at h
    cases h
    simp [natOfBytes]

/-! ### Captures and firings do not see the queues -/

/-- The state with other queues at the ports and another record of the executor. -/
def State.withQueues (s : State) (ports : Bank Port 4) (executor : Executor) : State :=
  { s with ports := ports, executor := executor }

/-- Taking a request changes the queues and the executor's record alone (R171). -/
theorem State.taken_withQueues (s : State) (p : PortId) :
    s.taken p = s.withQueues (s.taken p).ports { last := p, took := true } := rfl

section
variable (s : State) (ports : Bank Port 4) (executor : Executor)

theorem State.raiseTo_withQueues (p : PortId) (ev : Event) :
    (s.withQueues ports executor).raiseTo p ev = (s.raiseTo p ev).withQueues ports executor := by
  have hs : (s.withQueues ports executor).session p = s.session p := rfl
  unfold State.raiseTo
  rw [hs]
  cases s.session p <;> rfl

theorem State.raiseToOwner_withQueues (r : Resource) (ev : Event) :
    (s.withQueues ports executor).raiseToOwner r ev = (s.raiseToOwner r ev).withQueues ports executor := by
  have ho : (s.withQueues ports executor).owner r = s.owner r := rfl
  unfold State.raiseToOwner
  rw [ho]
  cases s.owner r with
  | none => rfl
  | some p => exact s.raiseTo_withQueues ports executor p ev

theorem State.setReader_withQueues (p : PortId) (r : Option Reader) :
    (s.withQueues ports executor).setReader p r = (s.setReader p r).withQueues ports executor := by
  have hs : (s.withQueues ports executor).session p = s.session p := rfl
  unfold State.setReader
  rw [hs]
  cases s.session p <;> rfl

theorem State.levelCheck_withQueues (p : PortId) :
    (s.withQueues ports executor).levelCheck p = (s.levelCheck p).withQueues ports executor := by
  have hr : (s.withQueues ports executor).reader p = s.reader p := rfl
  have hl : (s.withQueues ports executor).log = s.log := rfl
  unfold State.levelCheck
  rw [hr, hl]
  split
  · rfl
  · simp only [State.setReader_withQueues, State.raiseTo_withQueues]
    split
    · rfl
    · split <;> rfl

theorem State.lap_withQueues (tail : Seq) (p : PortId) :
    State.lap tail (s.withQueues ports executor) p = (State.lap tail s p).withQueues ports executor := by
  have hr : (s.withQueues ports executor).reader p = s.reader p := rfl
  unfold State.lap
  rw [hr]
  split
  · rfl
  · simp only [State.setReader_withQueues, State.raiseTo_withQueues]
    split <;> rfl

/-- A fold of operations that do not see the queues does not see them. -/
theorem foldl_withQueues {α : Type} (f : State → α → State)
    (h : ∀ t x, f (t.withQueues ports executor) x = (f t x).withQueues ports executor) (l : List α) :
    l.foldl f (s.withQueues ports executor) = (l.foldl f s).withQueues ports executor :=
  (List.foldl_hom (fun t => t.withQueues ports executor) (fun t x => h t x))

@[simp] theorem State.withQueues_log : (s.withQueues ports executor).log = s.log := rfl

@[simp] theorem State.setLog_withQueues (l : CaptureLog) :
    (s.withQueues ports executor).setLog l = (s.setLog l).withQueues ports executor := rfl

theorem State.evict_withQueues : (s.withQueues ports executor).evict = s.evict.withQueues ports executor := by
  unfold State.evict
  rw [State.withQueues_log, State.setLog_withQueues]
  exact foldl_withQueues _ ports executor _ (fun t p => t.lap_withQueues ports executor _ p) allPorts

theorem State.levelChecks_withQueues :
    (s.withQueues ports executor).levelChecks = s.levelChecks.withQueues ports executor :=
  foldl_withQueues s ports executor _ (fun t p => t.levelCheck_withQueues ports executor p) allPorts

theorem State.write_withQueues (c : Capture) :
    (s.withQueues ports executor).write c = (s.write c).withQueues ports executor := by
  unfold State.write
  rw [State.withQueues_log, State.setLog_withQueues, State.levelChecks_withQueues]

theorem State.raiseToReaders_withQueues (ev : Event) :
    (s.withQueues ports executor).raiseToReaders ev = (s.raiseToReaders ev).withQueues ports executor := by
  refine foldl_withQueues s ports executor _ (fun t p => ?_) allPorts
  have hr : (t.withQueues ports executor).reader p = t.reader p := rfl
  rw [hr, State.raiseTo_withQueues]
  split <;> rfl

theorem State.drop_withQueues : (s.withQueues ports executor).drop = s.drop.withQueues ports executor := by
  unfold State.drop
  rw [State.withQueues_log, State.setLog_withQueues, State.raiseToReaders_withQueues]

/-- What becomes of a capture request at the log does not depend on the queues (R10). -/
theorem State.capture_withQueues (c : Capture) :
    (s.withQueues ports executor).capture c = ((s.capture c).1.withQueues ports executor, (s.capture c).2) := by
  have hp : (s.withQueues ports executor).tailPinned = s.tailPinned := rfl
  unfold State.capture
  rw [State.withQueues_log, hp, State.evict_withQueues, State.write_withQueues, State.write_withQueues,
    State.drop_withQueues]
  by_cases hroom : s.log.held < Config.logCapacity
  · simp only [if_pos hroom]
  · by_cases hpin : s.tailPinned = true
    · simp only [if_neg hroom, if_pos hpin]
    · simp only [if_neg hroom, if_neg hpin]

theorem State.handOver_withQueues (c : Capture) :
    (s.withQueues ports executor).handOver c = ((s.handOver c).1.withQueues ports executor, (s.handOver c).2) := by
  unfold State.handOver
  dsimp only
  rw [State.capture_withQueues]
  dsimp only
  split <;> rfl

theorem State.noticeAll_withQueues (c : ChannelId) :
    (s.withQueues ports executor).noticeAll c = (s.noticeAll c).withQueues ports executor :=
  foldl_withQueues s ports executor _ (fun t d => by split <;> rfl) allChannels

/-- A firing does not depend on the queues (R52). -/
theorem State.fire_withQueues (c : ChannelId) :
    (s.withQueues ports executor).fire c = (s.fire c).withQueues ports executor := by
  have hc : ((s.noticeAll c).withQueues ports executor).channel c = (s.noticeAll c).channel c := rfl
  unfold State.fire
  dsimp only
  rw [State.noticeAll_withQueues, hc, State.raiseToOwner_withQueues]
  split <;> rfl

end

end Sys2Proof.Machine

/-! ## Trigger channels: burst steps, trigger events, firings and line changes (O47, O48, O49) -/

namespace Sys2Proof.Machine

theorem ArmMode.rest_eq (m : ArmMode) : m.rest = if m = .once then .spent else .armed := by cases m <;> rfl

/-- A counter of 16 bits counts up to its limit (R43). -/
theorem saturate_counterLimit (v : Nat) : saturate Config.counterLimit v = if v < 65535 then v + 1 else v := rfl

/-! ### Burst steps (R54) -/

theorem State.takeBurstStep_of_not_due {s : State} {c : ChannelId}
    (h : ¬((s.channel c).state = .bursting ∧ (s.channel c).stepDue = true)) : s.takeBurstStep c = s := if_neg h

/-- The step that has fallen due: its capture, the channel counted down, and BURST_END at the last. -/
theorem State.takeBurstStep_of_due {s : State} {c : ChannelId}
    (h : (s.channel c).state = .bursting ∧ (s.channel c).stepDue = true) :
    s.takeBurstStep c =
      let u := (s.request (s.channelCapture c (s.channel c).nextIndex)).setChannel c (s.channel c).afterStep
      if 1 < (s.channel c).remaining then u else u.raiseToOwner (.channel c) (.burstEnd c false) := if_pos h

/-- BURST_END changes the sessions alone, whether it is raised or not. -/
theorem State.raiseToOwner_unless_only (s : State) (b : Prop) [Decidable b] (r : Resource) (ev : Event) :
    OnlySessions s (if b then s else s.raiseToOwner r ev) := by
  split
  · exact OnlySessions.refl s
  · exact s.raiseToOwner_only r ev

/-- Settles O49: the step that is due, then the arrivals of the command's order. -/
theorem burstStepCapturesAndCountsDown : Obligations.BurstStepCapturesAndCountsDown := by
  intro s c log
  refine ⟨_, rfl, s.takeBurstStep c, State.reachLog_reached _ log, everyOrder_of_exec fun _ => rfl, ?_⟩
  dsimp only
  split
  · next h =>
    have only := s.takeBurstStep_only c
    rw [State.takeBurstStep_of_due h] at only ⊢
    dsimp only at only ⊢
    have told := State.raiseToOwner_unless_only
      ((s.request (s.channelCapture c (s.channel c).nextIndex)).setChannel c (s.channel c).afterStep)
      (1 < (s.channel c).remaining) (.channel c) (.burstEnd c false)
    refine ⟨?_, ?_, fun d hd => ?_, fun q => ?_, only⟩
    · rw [told.underway]; rfl
    · rw [told.channel, State.setChannel_channel_same, Channel.afterStep, ArmMode.rest_eq]
    · rw [told.channel, State.setChannel_channel_ne _ _ _ hd, State.request_channel]
    · by_cases hr : 1 < (s.channel c).remaining
      · simp [hr]
      · rw [if_neg hr, State.raiseToOwner_session]
        simp only [hr, not_false_eq_true, true_and]
        rfl
  · next h => exact State.takeBurstStep_of_not_due h

/-! ### Firings and trigger events (R49, R51, R52) -/

/-- A firing files TRIG_FIRED to the owner, when the notify flag is set (R52). -/
theorem State.fire_session (s : State) (c : ChannelId) (q : PortId) :
    (s.fire c).session q =
      if (s.channel c).config.notify = true ∧ s.owner (.channel c) = some q then
        (s.session q).map (Session.filed (.trigFired c))
      else s.session q := by
  have hc : (s.noticeAll c).channel c = s.channel c := by rw [State.noticeAll_channel, if_pos rfl]
  have hs : ∀ q, (s.noticeAll c).session q = s.session q := fun q => by
    rw [State.session, State.noticeAll_sessions, State.session]
  have ho : (s.noticeAll c).owner (.channel c) = s.owner (.channel c) := by rw [s.noticeAll_only c]; rfl
  unfold State.fire
  dsimp only
  rw [hc, State.setChannel_session]
  by_cases hn : (s.channel c).config.notify = true
  · simp only [hn, if_true, true_and]
    rw [State.raiseToOwner_session, ho, hs]
  · rw [if_neg hn, if_neg (fun h => hn h.1)]
    exact hs q

/-- A firing changes the channels and the sessions alone: its capture is requested beside it (R52). -/
theorem State.fire_eq (s : State) (c : ChannelId) :
    s.fire c = { s with channels := (s.fire c).channels, sessions := (s.fire c).sessions } := by
  have h := s.fire_only c
  unfold OnlyEvents at h
  rwa [s.fire_underway] at h

theorem Channel.afterFiring_eq (x : Channel) :
    x.afterFiring =
      (if 1 < x.config.burstCount then
        { { x with fires := x.fires + 1 } with state := .bursting, remaining := x.config.burstCount - 1, nextIndex := 1
                                               countdown := x.config.interval, stepDue := false }
      else if x.config.mode = .once then { { x with fires := x.fires + 1 } with state := .spent }
      else { { x with fires := x.fires + 1 } with state := .armed }) := by
  unfold Channel.afterFiring
  rw [ArmMode.rest_eq]
  split
  · rfl
  · split <;> rfl

/-- A firing is as R49 and R52 state it. -/
theorem State.fire_fired (s : State) (c : ChannelId) : s.fired c (s.fire c) := by
  refine ⟨s.fire_eq c, ?_, fun d hd => ?_, fun q => s.fire_session c q⟩
  · rw [State.fire_channel, if_pos rfl, Channel.afterFiring_eq]
  · rw [State.fire_channel, if_neg hd]
    rfl

theorem State.triggerEvent_of_idle {s : State} {c : ChannelId} (h : (s.channel c).state = .disarmed ∨ (s.channel c).state = .spent) :
    s.triggerEvent c = s := by
  rcases h with h | h <;> simp [State.triggerEvent, h]

/-- In ARMED the channel fires, with its capture under way (R51, R52). -/
theorem State.triggerEvent_of_armed {s : State} {c : ChannelId} (h : (s.channel c).state = .armed) :
    s.triggerEvent c = (s.request (s.channelCapture c 0)).fire c := by simp [State.triggerEvent, h]

/-- In WAITING and BURSTING the event is ignored, counted, and told to the owner (R51). -/
theorem State.triggerEvent_of_busy {s : State} {c : ChannelId}
    (h : (s.channel c).state = .waiting ∨ (s.channel c).state = .bursting) :
    s.triggerEvent c =
      (s.setChannel c { s.channel c with ignored := saturate Config.counterLimit (s.channel c).ignored }).raiseToOwner
        (.channel c) (.trigIgnored c) := by
  rcases h with h | h <;> simp [State.triggerEvent, h]

/-- A hand-over is the capture at the log, and a drop counted at the channel that requested it (R14, R59). -/
theorem State.handOver_eq (s : State) (c : Capture) :
    s.handOver c =
      match c.cause with
      | .trigger n _ =>
        (if (s.capture c).2 = none then
            (s.capture c).1.setChannel n { s.channel n with dropped := saturate Config.counterLimit (s.channel n).dropped }
          else (s.capture c).1, (s.capture c).2)
      | .mark => s.capture c
      | .host _ => s.capture c := by
  have hc : ∀ n, (s.capture c).1.channel n = s.channel n := fun n => by rw [s.capture_only c]; rfl
  unfold State.handOver
  generalize s.capture c = out at hc ⊢
  obtain ⟨t, _ | seq⟩ := out
  · cases c.cause with
    | trigger n _ => exact congrArg (fun x : Channel => (t.setChannel n { x with dropped := saturate Config.counterLimit x.dropped }, none)) (hc n)
    | mark => rfl
    | host _ => rfl
  · cases c.cause <;> rfl

/-- TRIG_FIRE on a port with a session: its checks in order, then the firing and its capture at the log (R53, R172). -/
theorem trigFireServer_eq {s : State} {p : PortId} {ses : Session} (hs : s.session p = some ses) (i : Byte) :
    trigFireServer p [i] s =
      let c : ChannelId := Fin.ofNat 8 i.toNat
      if 7 < i.toNat then .error .outOfRange
      else if s.owner (.channel c) ≠ some p then .error .notOwner
      else if (s.channel c).state ≠ .armed then .error .wrongState
      else .ok (outcomeBytes ((s.fire c).handOver (s.channelCapture c 0)).2, ((s.fire c).handOver (s.channelCapture c 0)).1) := by
  rw [trigFireServer, sessionRequest_of_some (len := 1) (payload := [i]) hs rfl, trigFireBody, idField_eq, ite_error_bind, ok_bind, requireOwner_bind,
    require_bind]
  rfl

theorem outcomeBytes_eq (o : Option Seq) :
    outcomeBytes o = (match o with | some seq => 1 :: bytesOfNat 4 seq.toNat | none => [2]) := by cases o <;> rfl

/-- Settles O47. -/
theorem channelsFireOnlyInArmed : Obligations.ChannelsFireOnlyInArmed := by
  refine ⟨fun s c => ⟨State.triggerEvent_of_idle, fun h => ?_, fun h => ?_⟩, State.handOver_eq, fun s p tag i ses hn hs => ?_⟩
  · rw [State.triggerEvent_of_busy h]
    have told := State.raiseToOwner_only
      (s.setChannel c { s.channel c with ignored := saturate Config.counterLimit (s.channel c).ignored })
      (.channel c) (.trigIgnored c)
    refine ⟨?_, fun d hd => ?_, fun q => ?_, ?_⟩
    · rw [told.channel, State.setChannel_channel_same, saturate_counterLimit]
    · rw [told.channel, State.setChannel_channel_ne _ _ _ hd]
    · rw [State.raiseToOwner_session]
      rfl
    · rw [told]
      rfl
  · rw [State.triggerEvent_of_armed h]
    exact State.fire_fired (s.request (s.channelCapture c 0)) c
  · refine ⟨_, rfl, ?_⟩
    refine refused_ite hn (trigFireServer_eq (s := s.taken p) hs i) fun _ server => ?_
    refine refused_ite hn server fun _ server => refused_ite hn server fun _ server => ?_
    generalize (Fin.ofNat 8 i.toNat : ChannelId) = c at server ⊢
    have hc : (s.taken p).channelCapture c 0 = s.channelRequest c 0 := rfl
    rw [hc, s.taken_withQueues, State.fire_withQueues, State.handOver_withQueues, ← s.taken_withQueues, outcomeBytes_eq]
      at server
    refine ⟨s.fire c, s.fire_fired c, answered_of_ok hn (by decide) server rfl rfl, ?_⟩
    rw [executorTakes_of_ok hn server]
    rfl

end Sys2Proof.Machine

/-! ## Changes of the trigger and index lines (O48) -/

namespace Sys2Proof.Machine

/-- The channels that take a change of a line to a level as a trigger event, each once (R44). -/
def State.Takers (s : State) (src : Source) (level : Level) (k : List ChannelId) : Prop :=
  k.Nodup ∧ ∀ c, c ∈ k ↔
    (s.channel c).config.source = src ∧
      ((s.channel c).config.edge = .both ∨ ((s.channel c).config.edge = .rising ∧ level = .high) ∨
        ((s.channel c).config.edge = .falling ∧ level = .low))

theorem Edge.selects_iff (e : Edge) (level : Level) :
    e.selects level = true ↔ e = .both ∨ (e = .rising ∧ level = .high) ∨ (e = .falling ∧ level = .low) := by
  cases e <;> simp [Edge.selects]

/-- A change of a line reaches its takers, whatever the order (R44). -/
theorem State.edgeChannels_takers (s : State) (src : Source) (level : Level) (order : List ChannelId) :
    s.Takers src level (s.edgeChannels src level order) :=
  ⟨s.nodup_edgeChannels src level order, fun c => by rw [State.mem_edgeChannels, Edge.selects_iff]⟩

/-- Every order of the takers can be had, by naming them in it (R63, log entry 3). -/
theorem State.edgeChannels_eq {s : State} {src : Source} {level : Level} {k : List ChannelId} (h : s.Takers src level k) :
    s.edgeChannels src level k = k := by
  refine filter_preferred h.1 nodup_allChannels _ fun c => ?_
  simp only [h.2, mem_allChannels, true_and, Bool.and_eq_true, decide_eq_true_eq, Edge.selects_iff]

/-- The filtered level has changed when the line had its first sample before and shows another level now (R45). -/
theorem FilteredLine.changedTo_iff (old new : FilteredLine) :
    old.changedTo new = true ↔ ¬(old.primed = false ∨ new.level = old.level) := by
  simp [FilteredLine.changedTo, eq_comm (a := new.level)]

/-! ### Trigger lines (R45) -/

/-- The state once a trigger line has shown a level and taken this tick's sample, before any trigger event. -/
def State.lineSampled (s : State) (l : LineId) (raw : Level) : State :=
  let x := s.trigLine l
  s.setLine l { x with line := FilteredLine.sample { x.line with raw := raw } x.sampleFilter, sampled := true }

theorem State.showTrigLine_of_sampled {s : State} {l : LineId} (h : (s.trigLine l).sampled = true) (raw : Level)
    (order : List ChannelId) :
    s.showTrigLine l raw order = s.setLine l { s.trigLine l with line := { (s.trigLine l).line with raw := raw } } := if_pos h

/-- A line that is sampled takes its sample, and its change is a trigger event at each taker. -/
theorem State.showTrigLine_of_not_sampled {s : State} {l : LineId} (h : ¬(s.trigLine l).sampled = true) (raw : Level)
    (order : List ChannelId) :
    s.showTrigLine l raw order =
      let x := s.trigLine l
      let line := FilteredLine.sample { x.line with raw := raw } x.sampleFilter
      let base := s.lineSampled l raw
      if x.line.primed = false ∨ line.level = x.line.level then base
      else base.triggerEvents (base.edgeChannels (.line l) line.level order) := by
  unfold State.showTrigLine
  dsimp only
  rw [if_neg h]
  unfold State.sampleTrigLine
  dsimp only
  rw [State.setLine_trigLine_same]
  have hb : ∀ x y : TrigLine, (s.setLine l x).setLine l y = s.setLine l y := fun x y =>
    congrArg (fun lines => { s with lines := lines }) (Bank.write_write _ _ _ _)
  rw [hb]
  simp only [FilteredLine.changedTo_iff, ite_not]
  rfl

/-! ### Index lines (R71) -/

/-- The state once an index line has shown a level and taken this tick's sample, before any trigger event. -/
def State.indexSampled (s : State) (n : AxisId) (raw : Level) : State :=
  let x := s.axis n
  s.setAxis n { x with z := FilteredLine.sample { x.z with raw := raw } x.sampleFilter, sampledZ := true }

theorem State.showAxis_z_of_sampled {s : State} {n : AxisId} (h : (s.axis n).sampledZ = true) (raw : Level)
    (channels : ChannelOrder) :
    s.showAxis n (.z raw channels) = s.setAxis n { s.axis n with z := { (s.axis n).z with raw := raw } } := if_pos h

/-- An index line that is sampled takes its sample, and its change is a trigger event at each taker. -/
theorem State.showAxis_z_of_not_sampled {s : State} {n : AxisId} (h : ¬(s.axis n).sampledZ = true) (raw : Level)
    (channels : ChannelOrder) :
    s.showAxis n (.z raw channels) =
      let x := s.axis n
      let line := FilteredLine.sample { x.z with raw := raw } x.sampleFilter
      let base := s.indexSampled n raw
      if x.z.primed = false ∨ line.level = x.z.level then base
      else base.triggerEvents (base.edgeChannels (.index n) line.level channels.events) := by
  simp only [State.showAxis]
  rw [if_neg h]
  unfold State.sampleZ
  dsimp only
  rw [State.setAxis_axis_same]
  have hb : ∀ x y : Axis, (s.setAxis n x).setAxis n y = s.setAxis n y := fun x y =>
    congrArg (fun axes => { s with axes := axes }) (Bank.write_write _ _ _ _)
  rw [hb]
  simp only [FilteredLine.changedTo_iff, ite_not]
  rfl

/-- What a change of a line leaves: the trigger events of its takers, in the order the command gives and in every other. -/
theorem edge_reached {base : State} {src : Source} {level : Level} {log : LogOrder} {order : List ChannelId}
    {run : List ChannelId → Host.Outcome State Fault Refusal}
    (h : ∀ k, run k = .next ((base.triggerEvents (base.edgeChannels src level k)).reachLog log)) :
    (∃ k, base.Takers src level k ∧ base.triggerEvents (base.edgeChannels src level order) = k.foldl State.triggerEvent base) ∧
      ∀ k, base.Takers src level k → ∃ v, run k = .next v ∧ (k.foldl State.triggerEvent base).reached log v := by
  refine ⟨⟨_, base.edgeChannels_takers src level order, rfl⟩, fun k hk => ⟨_, h k, ?_⟩⟩
  rw [State.edgeChannels_eq hk]
  exact State.reachLog_reached _ log

/-- Settles O48: a line sampled before shows its level only, a sample without a change gives no event, and a change is a trigger
event at each taker. -/
theorem lineChangesAreTriggerEvents : Obligations.LineChangesAreTriggerEvents := by
  refine ⟨fun s l raw order => ?_, fun s n raw order => ?_⟩
  · refine ⟨_, rfl, s.showTrigLine l raw order.events, State.reachLog_reached _ _, everyOrder_of_exec fun _ => rfl, ?_⟩
    by_cases hs : (s.trigLine l).sampled = true
    · rw [if_pos hs]
      exact State.showTrigLine_of_sampled hs raw _
    · rw [if_neg hs]
      have shown := fun k => State.showTrigLine_of_not_sampled hs raw k
      dsimp only at shown ⊢
      split
      · next hc => rw [shown, if_pos hc]; rfl
      · next hc =>
        simp only [if_neg hc] at shown
        rw [shown]
        exact edge_reached (base := s.lineSampled l raw)
          (run := fun k => exec (.trigLevelChange l raw { order with events := k }) s)
          fun k => congrArg (fun v : State => Host.Outcome.next (v.reachLog order.log)) (shown k)
  · refine ⟨_, rfl, s.showAxis n (.z raw order), State.reachLog_reached _ _, everyOrder_of_exec fun _ => rfl, ?_⟩
    by_cases hs : (s.axis n).sampledZ = true
    · rw [if_pos hs]
      exact State.showAxis_z_of_sampled hs raw _
    · rw [if_neg hs]
      have shown := fun k => State.showAxis_z_of_not_sampled hs raw k
      dsimp only at shown ⊢
      split
      · next hc => rw [shown, if_pos hc]; rfl
      · next hc =>
        simp only [if_neg hc] at shown
        rw [shown]
        exact edge_reached (base := s.indexSampled n raw)
          (run := fun k => exec (.axisLevelChange n (.z raw { order with events := k })) s)
          fun k => congrArg (fun v : State => Host.Outcome.next (v.reachLog order.log)) (shown { order with events := k })

end Sys2Proof.Machine

/-! ## LOG_RELEASE and LOG_STATUS (O54) -/

namespace Sys2Proof.Machine

/-- A number between a cursor and the head divides the distance between them (R6). -/
theorem distance_between {head next cursor : Seq} (h : distance next cursor ≤ distance head cursor) :
    distance head next = distance head cursor - distance next cursor := by
  unfold distance at *
  bv_omega

/-- A cursor that moves forward inside the unread records leaves the level flag as the new unread count has it, and raises no
event: a flag that is to stand stood before (R31, R38). -/
theorem Session.levelChecked_of_moved {ses : Session} {r : Reader} {head next : Seq}
    (hl : r.level = true ↔ r.watermark ≤ distance head r.cursor) (hd : distance next r.cursor ≤ distance head r.cursor) :
    Session.levelChecked head { ses with reader := some { r with cursor := next } } =
      { ses with
        reader := some { r with
          cursor := next
          level := decide (r.watermark ≤ distance head r.cursor - distance next r.cursor) } } := by
  unfold Session.levelChecked
  dsimp only
  rw [distance_between hd]
  rcases Nat.lt_or_ge (distance head r.cursor - distance next r.cursor) r.watermark with hw | hw
  · simp [hw]
  · have hlevel : r.level = true := hl.mpr (by omega)
    simp [hw, Nat.not_lt.mpr hw, hlevel]

/-- A reader replaced and checked: the session of its port alone changes (R31). -/
theorem State.setReader_levelCheck_session {s : State} {p : PortId} {ses : Session} (hs : s.session p = some ses) (r : Reader)
    (q : PortId) :
    ((s.setReader p (some r)).levelCheck p).session q =
      if q = p then some (Session.levelChecked s.log.head { ses with reader := some r }) else s.session q := by
  rw [State.levelCheck_session, State.setReader_session, (s.setReader_only p _).log]
  by_cases hq : q = p
  · subst hq
    simp [hs]
  · simp [hq]

theorem State.setReader_levelCheck_only (s : State) (p : PortId) (r : Option Reader) :
    OnlySessions s ((s.setReader p r).levelCheck p) :=
  OnlySessions.trans _ _ _ (s.setReader_only p r) (State.levelCheck_only _ p)

/-- Without a reader LOG_RELEASE is refused (R42). -/
theorem logReleaseServer_of_none {s : State} {p : PortId} {ses : Session} (hs : s.session p = some ses)
    (hr : ses.reader = none) {payload : List Byte} (hl : payload.length = 4) :
    logReleaseServer p payload s = .error .notSubscribed := by
  rw [logReleaseServer, sessionRequest_of_some hs hl, logReleaseBody, requireReader, hr]
  rfl

/-- LOG_RELEASE on a port with a reader: the three readings of the distance of n + 1 from the cursor (R37). -/
theorem logReleaseServer_of_some {s : State} {p : PortId} {ses : Session} {r : Reader} (hs : s.session p = some ses)
    (hr : ses.reader = some r) {payload : List Byte} (hl : payload.length = 4) :
    logReleaseServer p payload s =
      let next : Seq := BitVec.ofNat 32 (natAt payload 0 4) + 1
      if distance next r.cursor = 0 ∨ 2147483648 ≤ distance next r.cursor then
        .ok (1 :: (bytesOfNat 4 r.cursor.toNat ++ bytesOfNat 4 s.log.head.toNat), s)
      else if s.log.unread r < distance next r.cursor then .error .outOfRange
      else
        .ok (0 :: (bytesOfNat 4 next.toNat ++ bytesOfNat 4 s.log.head.toNat),
          (s.setReader p (some { r with cursor := next })).levelCheck p) := by
  rw [logReleaseServer, sessionRequest_of_some hs hl, logReleaseBody, requireReader, hr]
  simp only [ok_bind, releaseReading]
  generalize distance _ r.cursor = d
  by_cases hstale : d = 0 ∨ 2147483648 ≤ d
  · simp only [if_pos hstale]
    rfl
  · by_cases hmoves : d ≤ s.log.unread r
    · simp only [if_neg hstale, if_pos hmoves, if_neg (Nat.not_lt.mpr hmoves)]
      rfl
    · simp only [if_neg hstale, if_neg hmoves, if_pos (Nat.not_le.mp hmoves)]

/-- LOG_STATUS on a port with a session (R21). -/
theorem logStatusServer_eq {s : State} {p : PortId} {ses : Session} (hs : s.session p = some ses) :
    logStatusServer p [] s =
      .ok (bytesOfNat 4 s.log.tail.toNat ++ bytesOfNat 4 s.log.head.toNat ++ bytesOfNat 2 s.log.drops ++
        (match ses.reader with
          | none => [0]
          | some r =>
            [1, if r.mode = .keep then 0 else 1] ++ bytesOfNat 4 r.cursor.toNat ++ bytesOfNat 2 r.watermark ++
              bytesOfNat 2 r.lost ++ [if r.level then 1 else 0]), s) := by
  rw [logStatusServer, sessionRequest_of_some (len := 0) (payload := []) hs rfl, logStatusBody]
  cases ses.reader with
  | none => rfl
  | some r =>
    have hm : r.mode.code = if r.mode = .keep then 0 else 1 := by cases r.mode <;> rfl
    simp only [hm, byteOfFlag, List.append_assoc]
    rfl

/-- Settles O54: the readings of LOG_RELEASE one by one, and the report of LOG_STATUS. -/
theorem logReleaseMovesTheCursorAndLogStatusReports : Obligations.LogReleaseMovesTheCursorAndLogStatusReports := by
  intro s p tag ses hs
  refine ⟨fun n3 n2 n1 n0 hok hn => ⟨_, rfl, ?_⟩, fun hn => ⟨_, rfl, ?_⟩⟩
  · have hs' : (s.taken p).session p = some ses := hs
    cases hr : ses.reader with
    | none => exact refused_of_error hn (logReleaseServer_of_none hs' hr rfl)
    | some r =>
      have hread : natAt [n3, n2, n1, n0] 0 4 = natOfBytes [n3, n2, n1, n0] := rfl
      have server := logReleaseServer_of_some hs' hr (payload := [n3, n2, n1, n0]) rfl
      rw [hread] at server
      dsimp only at server ⊢
      generalize BitVec.ofNat 32 (natOfBytes [n3, n2, n1, n0]) + 1 = next at server ⊢
      split
      · next hstale => exact onlyAnswered_of_ok hn (by decide) (server.trans (if_pos hstale))
      · next hstale =>
        refine refused_ite hn (server.trans (if_neg hstale)) fun hmoves server => ?_
        have only := State.setReader_levelCheck_only (s.taken p) p (some { r with cursor := next })
        have session := State.setReader_levelCheck_session hs' { r with cursor := next }
        obtain ⟨-, -, -, -, -, hlevel⟩ := hok r hr
        refine ⟨answered_of_ok hn (by decide) server (by rw [only]) (by rw [only]), ?_, fun q hq => ?_, ?_⟩ <;>
          rw [executorTakes_of_ok hn server]
        · rw [State.deposit_session, session, if_pos rfl]
          exact congrArg some (Session.levelChecked_of_moved hlevel (Nat.not_lt.mp hmoves))
        · rw [State.deposit_session, session, if_neg hq, State.taken_session]
        · rw [State.deposit_eq, only]
          rfl
  · exact onlyAnswered_of_ok hn (by decide) (logStatusServer_eq (s := s.taken p) hs)

end Sys2Proof.Machine

/-! ## SNAP (O37) -/

namespace Sys2Proof.Machine

/-! ### The sample -/

/-- The value entries of a sample stand in ascending axis order (R3). -/
theorem State.sampleAxes_ascending (s : State) (set : AxisSet) :
    ((s.sampleAxes set).map ValueEntry.axis).Pairwise (· < ·) := by
  have hall : allAxes.Pairwise (· < ·) := by decide
  rw [State.sampleAxes, List.map_map]
  change ((allAxes.filter _).map id).Pairwise _
  rw [List.map_id]
  exact hall.filter _

/-- The value entry of an axis holds its count, its turns in modulo mode, and FAULTED (R3, R58). -/
theorem State.eq_sampleAxis_iff (s : State) (v : ValueEntry) :
    v = s.sampleAxis v.axis ↔
      v.count = (s.axis v.axis).count ∧
        v.turns = (if (s.axis v.axis).span = 0 then none else some (s.axis v.axis).turns) ∧
        (v.faulted = true ↔ (s.axis v.axis).state = .faulted) := by
  obtain ⟨n, count, turns, faulted⟩ := v
  cases faulted <;> simp [State.sampleAxis]

/-- A member of a set that six bits of a byte give (R177). -/
theorem inSet_ofNat_byte (b : Byte) (n : AxisId) : inSet (BitVec.ofNat 6 b.toNat) n.val = b.getLsbD n.val := by
  simp [inSet]

theorem State.mem_sampleAxes_byte (s : State) (b : Byte) (v : ValueEntry) :
    v ∈ s.sampleAxes (BitVec.ofNat 6 b.toNat) ↔
      b.getLsbD v.axis.val = true ∧ v.count = (s.axis v.axis).count ∧
        v.turns = (if (s.axis v.axis).span = 0 then none else some (s.axis v.axis).turns) ∧
        (v.faulted = true ↔ (s.axis v.axis).state = .faulted) := by
  rw [State.mem_sampleAxes, ← State.eq_sampleAxis_iff]
  constructor
  · rintro ⟨n, hn, rfl⟩
    exact ⟨(inSet_ofNat_byte b n).symm.trans hn, rfl⟩
  · rintro ⟨hn, hv⟩
    exact ⟨v.axis, (inSet_ofNat_byte b v.axis).trans hn, hv⟩

/-! ### The bytes of a value entry (R85, R181, R183) -/

theorem narrow_eq (v : Int) : narrow v = max (-2147483648) (min v 2147483647) := by
  unfold narrow Config.narrowMax Config.narrowMin
  split
  · omega
  · split <;> omega

theorem clipped_eq (v : Int) : clipped v = decide (max (-2147483648) (min v 2147483647) ≠ v) := by
  unfold clipped Config.narrowMax Config.narrowMin
  rw [decide_eq_decide]
  omega

theorem ValueEntry.entryByte_eq (v : ValueEntry) (clip : Bool) :
    v.entryByte clip =
      byteOfNat (v.axis.val + (if clip then 32 else 0) + (if v.turns = none then 0 else 64) +
        (if v.faulted then 128 else 0)) := by
  cases ht : v.turns <;> simp [ValueEntry.entryByte, bitAt, ht]

theorem turnsBytes_eq (t : Option Turns) : turnsBytes t = (t.map (fun k => bytesOfNat 2 k.toNat)).getD [] := by
  cases t <;> rfl

/-- SNAP on a port with a session: its checks, then the sample, in the response and, when asked, at the log (R86). -/
theorem snapServer_eq {s : State} {p : PortId} {ses : Session} (hs : s.session p = some ses) (set log form : Byte) :
    snapServer p [set, log, form] s =
      if 63 < set.toNat ∨ 1 < log.toNat ∨ 1 < form.toNat then .error .badValue
      else
        let values := s.sampleAxes (BitVec.ofNat 6 set.toNat)
        let out := s.capture { stamp := s.stamp, cause := .host p, values := values }
        if log = 0 then .ok (s.stamp.bytes ++ [0] ++ valuesBytes values (decide (form = 1)) s.stamp, s)
        else .ok (s.stamp.bytes ++ outcomeBytes out.2 ++ valuesBytes values (decide (form = 1)) s.stamp, out.1) := by
  have hset : natAt [set, log, form] 0 1 = set.toNat := natAt_one _ _ _ rfl
  have hform : codeField narrowForm? [set, log, form] 2 = flagField [set, log, form] 2 := rfl
  rw [snapServer, sessionRequest_of_some (len := 3) (payload := [set, log, form]) hs rfl, snapBody, hform, setField_eq, hset,
    ite_error_bind, ok_bind, flagField_eq, ite_error_bind, ok_bind, flagField_eq, ite_error_bind, ok_bind]
  change (if 63 < set.toNat then _ else if 1 < log.toNat then _ else if 1 < form.toNat then _ else _) = _
  by_cases h1 : 63 < set.toNat
  · simp only [h1, true_or, if_true]
  by_cases h2 : 1 < log.toNat
  · simp only [h1, h2, true_or, or_true, if_false, if_true]
  by_cases h3 : 1 < form.toNat
  · simp only [h1, h2, h3, or_true, if_false, if_true]
  simp only [h1, h2, h3, or_self, if_false]
  by_cases hl : log = 0
  · subst hl; rfl
  · have hl1 : log = 1 := by bv_omega
    subst hl1; rfl

/-- The bytes of a sample in a SNAP response, in the layout of R181 and R183. -/
theorem valuesBytes_eq (values : List ValueEntry) (form : Byte) (t : Stamp) :
    valuesBytes values (decide (form = 1)) t =
      [byteOfNat values.length] ++ values.flatMap fun v =>
        let limited : Int := max (-2147483648) (min v.count 2147483647)
        let clip : Bool := if form = 1 then decide (limited ≠ v.count) else Config.wideClipped t.tick t.epoch v.axis
        [byteOfNat (v.axis.val + (if clip then 32 else 0) + (if v.turns = none then 0 else 64) +
            (if v.faulted then 128 else 0))] ++
          (if form = 1 then bytesOfNarrow limited else bytesOfCount v.count) ++
          ((v.turns.map (fun k => bytesOfNat 2 k.toNat)).getD []) := by
  unfold valuesBytes
  congr 2
  funext v
  by_cases hf : form = 1
  · simp only [hf, decide_true, if_true, ValueEntry.narrowBytes, ValueEntry.entryByte_eq, clipped_eq, narrow_eq,
      turnsBytes_eq]
  · simp only [hf, decide_false, Bool.false_eq_true, if_false, ValueEntry.wideBytes, ValueEntry.entryByte_eq, clippedBit,
      turnsBytes_eq]

/-- Settles O37: the checks, then one sample in the response and, with the log flag set, at the log. -/
theorem snapSamplesAndLogsWhenAsked : Obligations.SnapSamplesAndLogsWhenAsked := by
  intro s p tag set log form ses hn hs
  refine ⟨_, rfl, ?_⟩
  refine refused_ite hn (snapServer_eq (s := s.taken p) hs set log form) fun _ server => ?_
  refine ⟨s.sampleAxes (BitVec.ofNat 6 set.toNat), fun n => Config.wideClipped s.stamp.tick s.stamp.epoch n,
    s.sampleAxes_ascending _, s.mem_sampleAxes_byte set, ?_⟩
  dsimp only at server ⊢
  rw [valuesBytes_eq, State.taken_stamp, State.taken_sampleAxes] at server
  by_cases hl : log = 0
  · simp only [if_pos hl, ← List.append_assoc] at server ⊢
    refine ⟨answered_of_ok hn (by decide) server rfl rfl, ?_, ?_, ?_⟩ <;>
      rw [executorTakes_of_ok hn server] <;> rfl
  · simp only [if_neg hl, ← List.append_assoc] at server ⊢
    rw [s.taken_withQueues, State.capture_withQueues, ← s.taken_withQueues, outcomeBytes_eq] at server
    refine ⟨answered_of_ok hn (by decide) server rfl rfl, ?_, ?_, ?_⟩ <;> rw [executorTakes_of_ok hn server]
    · rfl
    · rfl
    · rw [s.capture_only]
      rfl

end Sys2Proof.Machine

/-! ## The MARK line: its recognizer, its edges and its re-arm (O57) -/

namespace Sys2Proof.Machine

/-! ### The line and its sample (R122, R123) -/

theorem MarkUnit.line_eq_low_iff (m : MarkUnit) : m.line = .low ↔ m.drive = .driving ∨ m.outside = .low := by
  unfold MarkUnit.line
  split <;> simp_all

theorem MarkUnit.line_eq_high_iff (m : MarkUnit) : m.line = .high ↔ ¬(m.drive = .driving ∨ m.outside = .low) := by
  rw [← m.line_eq_low_iff]
  cases m.line <;> simp

theorem MarkUnit.released_iff (m : MarkUnit) : ¬(m.drive = .driving ∨ m.outside = .low) ↔ m.drive = .idle ∧ m.outside = .high := by
  cases m.drive <;> cases m.outside <;> simp

theorem succ_lt_markSamples (n : Nat) : n + 1 < Config.markSamples ↔ n < 3 := by
  unfold Config.markSamples
  omega

theorem MarkUnit.sample_of_ready_high {m : MarkUnit} (hr : m.recognizer = .ready) (hl : m.line = .high) :
    m.sample = ({ m with lowRun := 0, sampled := .taken }, false) := by simp [MarkUnit.sample, hr, hl]

theorem MarkUnit.sample_of_ready_low {m : MarkUnit} (hr : m.recognizer = .ready) (hl : m.line = .low) :
    m.sample =
      if m.lowRun < 3 then ({ m with lowRun := m.lowRun + 1, sampled := .taken }, false)
      else ({ m with recognizer := .held, lowRun := 0, highRun := 0
                     sampled := if m.outside = .low then .taken else .pulseEdge }, true) := by
  simp [MarkUnit.sample, hr, hl, succ_lt_markSamples, MarkUnit.edgeSample]

theorem MarkUnit.sample_of_held_low {m : MarkUnit} (hr : m.recognizer = .held) (hl : m.line = .low) :
    m.sample = ({ m with highRun := 0, sampled := .taken }, false) := by simp [MarkUnit.sample, hr, hl]

theorem MarkUnit.sample_of_held_high {m : MarkUnit} (hr : m.recognizer = .held) (hl : m.line = .high) :
    m.sample =
      if m.highRun < 3 then ({ m with highRun := m.highRun + 1, sampled := .taken }, false)
      else ({ m with recognizer := .ready, lowRun := 0, highRun := 0, sampled := .taken }, false) := by
  simp [MarkUnit.sample, hr, hl, succ_lt_markSamples]

/-- A sample gives an edge exactly at the fourth low of a READY recognizer (R123). -/
theorem MarkUnit.sample_edge_iff (m : MarkUnit) :
    m.sample.2 = true ↔ m.recognizer = .ready ∧ m.line = .low ∧ 3 ≤ m.lowRun := by
  cases hr : m.recognizer <;> cases hl : m.line
  · rw [MarkUnit.sample_of_ready_low hr hl]
    split <;> simp <;> omega
  · simp [MarkUnit.sample_of_ready_high hr hl]
  · simp [MarkUnit.sample_of_held_low hr hl]
  · rw [MarkUnit.sample_of_held_high hr hl]
    split <;> simp

/-! ### A DEVICE_RESET that is sure to come (R131, R171; log entry 10) -/

/-- With no request found, no DEVICE_RESET comes. -/
theorem State.resetFirst_of_search_none {s : State} {l : List PortId} (h : s.searchRequest l = none) (due : PortId → Bool) :
    s.resetFirst due l = false := by
  induction l with
  | nil => rfl
  | cons p l ih =>
    unfold State.searchRequest at h
    unfold State.resetFirst
    cases hw : (s.port p).waitingRequest with
    | none =>
      rw [hw] at h
      exact ih h
    | some f =>
      rw [hw] at h
      cases h

/-- The request found first decides: it is an accepted DEVICE_RESET, and its port's session does not expire before it. -/
theorem State.resetFirst_of_search_some {s : State} {l : List PortId} {p : PortId} {f : Frame}
    (h : s.searchRequest l = some (p, f)) (due : PortId → Bool) :
    ∃ rest, s.resetFirst due l = (s.acceptsReset p f && (!due p || rest)) := by
  induction l with
  | nil => cases h
  | cons q l ih =>
    unfold State.searchRequest at h
    unfold State.resetFirst
    cases hw : (s.port q).waitingRequest with
    | none =>
      rw [hw] at h
      exact ih h
    | some g =>
      rw [hw] at h
      cases h
      exact ⟨_, rfl⟩

/-- The next request is the one the search finds (R171). -/
theorem State.searchRequest_of_nextRequest {s : State} {p : PortId} {f : Frame} (h : s.nextRequest = some (p, f)) :
    s.searchRequest (portRotation s.executor.last) = some (p, f) := by
  unfold State.nextRequest at h
  split at h
  · cases h
  · split at h
    · cases h
    · next hs =>
      split at h
      · cases h
      · rw [hs]
        exact h

theorem State.resetForced_of_nextRequest_none {s : State} (h : s.nextRequest = none) (hm : s.mark.sampled ≠ .pulseEdge) :
    s.resetForced = false := by
  unfold State.nextRequest at h
  split at h
  · next ht => exact State.resetForced_of_took ht
  · split at h
    · next hs => rw [State.resetForced, State.resetFirst_of_search_none hs, Bool.and_false]
    · simp [hm] at h

theorem State.resetForced_of_nextRequest_some {s : State} {p : PortId} {f : Frame} (h : s.nextRequest = some (p, f)) :
    (s.acceptsReset p f = false → s.resetForced = false) ∧
      (s.acceptsReset p f = true → s.expiryDue p = false → s.resetForced = true) := by
  obtain ⟨rest, hf⟩ := State.resetFirst_of_search_some (State.searchRequest_of_nextRequest h) s.expiryDue
  have ht := (State.nextRequest_some h).1
  unfold State.resetForced
  rw [hf, ht]
  exact ⟨fun ha => by simp [ha], fun ha he => by simp [ha, he]⟩

/-! ### The edge (R120, R124) -/

theorem State.takeRecognisedEdge_of_not {s : State} (h : ¬(s.mark.sampled = .notYet ∧ s.mark.sample.2 = true ∧ s.lowCertain = true))
    (order : List ChannelId) : s.takeRecognisedEdge order = s := if_neg h

/-- The fourth low sample that is certain: the recognizer is HELD, and the edge is recognised (R123, R124). -/
theorem State.takeRecognisedEdge_of {s : State} (h : s.mark.sampled = .notYet ∧ s.mark.sample.2 = true ∧ s.lowCertain = true)
    (order : List ChannelId) : s.takeRecognisedEdge order = (s.setMark s.mark.sample.1).recogniseEdge order := by
  rw [State.takeRecognisedEdge, if_pos h, State.sampleMark, if_pos h.2.1]

theorem State.lowCertain_iff (s : State) :
    s.lowCertain = true ↔ s.mark.outside = .low ∨ (s.mark.drive = .driving ∧ s.mark.endDue = false ∧ s.resetForced = false) := by
  simp [State.lowCertain, and_assoc]

theorem State.alignAtEdge_mark (s : State) : s.alignAtEdge.mark = s.mark := by
  unfold State.alignAtEdge
  split
  · rw [State.raiseToAll_only]; rfl
  · rfl

theorem State.alignAtEdge_channel (s : State) (c : ChannelId) : s.alignAtEdge.channel c = s.channel c := by
  unfold State.alignAtEdge
  split
  · rw [State.raiseToAll_only]; rfl
  · rfl

theorem State.alignAtEdge_sampleAxes (s : State) (set : AxisSet) : s.alignAtEdge.sampleAxes set = s.sampleAxes set := by
  rw [s.alignAtEdge_only]; rfl

theorem State.markCapture_mark (s : State) : s.markCapture.mark = s.mark := by rw [s.markCapture_only]

theorem State.markCapture_channel (s : State) (c : ChannelId) : s.markCapture.channel c = s.channel c := by
  unfold State.markCapture
  split <;> rfl

theorem OnlyEvents.mark {s t : State} (h : OnlyEvents s t) : t.mark = s.mark := by rw [h]

/-- The channels with the MARK source, each once (R44). -/
def State.MarkTakers (s : State) (k : List ChannelId) : Prop := k.Nodup ∧ ∀ c, c ∈ k ↔ (s.channel c).config.source = .mark

/-- Every order of the channels of a source can be had, by naming them in it (R63, log entry 3). -/
theorem State.sourceChannels_eq {s : State} {src : Source} {k : List ChannelId} (hn : k.Nodup)
    (h : ∀ c, c ∈ k ↔ (s.channel c).config.source = src) : s.sourceChannels src k = k :=
  filter_preferred hn nodup_allChannels _ fun c => by simp [h]

/-- A recognised edge whose MARK-source channels take their trigger events in the order `k` (R124). -/
def State.edgeEnded (s : State) (k : List ChannelId) : State := (s.alignAtEdge.markCapture.triggerEvents k).markNotify

theorem State.recogniseEdge_eq_edgeEnded (s : State) (order : List ChannelId) :
    s.recogniseEdge order = s.edgeEnded (s.alignAtEdge.markCapture.sourceChannels .mark order) := rfl

theorem State.captured_channel (s : State) (c : ChannelId) : s.alignAtEdge.markCapture.channel c = s.channel c := by
  rw [State.markCapture_channel, State.alignAtEdge_channel]

theorem State.captured_sourceChannels_takers (s : State) (order : List ChannelId) :
    s.MarkTakers (s.alignAtEdge.markCapture.sourceChannels .mark order) :=
  ⟨State.nodup_sourceChannels _ _ _, fun c => by rw [State.mem_sourceChannels, State.captured_channel]⟩

theorem State.recogniseEdge_of_takers {s : State} {k : List ChannelId} (h : s.MarkTakers k) :
    s.recogniseEdge k = s.edgeEnded k := by
  rw [State.recogniseEdge_eq_edgeEnded, State.sourceChannels_eq h.1 fun c => by rw [State.captured_channel]; exact h.2 c]

theorem State.edgeEnded_eq (s : State) (k : List ChannelId) :
    s.edgeEnded k =
      let aligned :=
        if s.time.align = .armed then
          (s.setTime { tick := s.time.preload, epoch := s.time.epoch + 1, align := .idle, preload := 0 }).raiseToAll .aligned
        else s
      let captured :=
        if s.mark.captureSet = 0 then aligned
        else
          aligned.requested { stamp := { tick := aligned.time.tick, epoch := aligned.time.epoch }, cause := .mark
                              values := s.sampleAxes s.mark.captureSet }
      let told := k.foldl State.triggerEvent captured
      if s.mark.notify then told.raiseToAll .markSeen else told := by
  have ha : (if s.time.align = .armed then
      (s.setTime { tick := s.time.preload, epoch := s.time.epoch + 1, align := .idle, preload := 0 }).raiseToAll .aligned
      else s) = s.alignAtEdge := rfl
  have hc : (if s.mark.captureSet = 0 then s.alignAtEdge
      else s.alignAtEdge.requested
        { stamp := { tick := s.alignAtEdge.time.tick, epoch := s.alignAtEdge.time.epoch }, cause := .mark
          values := s.sampleAxes s.mark.captureSet }) = s.alignAtEdge.markCapture := by
    rw [State.markCapture, State.alignAtEdge_mark, State.alignAtEdge_sampleAxes]
    rfl
  have hm : (s.alignAtEdge.markCapture.triggerEvents k).mark = s.mark := by
    rw [(State.triggerEvents_only _ k).mark, State.markCapture_mark, State.alignAtEdge_mark]
  dsimp only
  rw [ha, hc, State.edgeEnded, State.markNotify, hm]
  rfl

/-- Settles O57. -/
theorem markEdgesAndTheRecognizer : Obligations.MarkEdgesAndTheRecognizer := by
  refine ⟨fun s outside => ⟨_, rfl, rfl⟩, fun s => ⟨_, rfl, ?_⟩, fun m => ?_, fun s => ?_, fun s events log => ?_⟩
  · have hline : s.mark.line = .high ↔ s.mark.drive = .idle ∧ s.mark.outside = .high := by
      rw [MarkUnit.line_eq_high_iff, MarkUnit.released_iff]
    have hrun : s.mark.highRun + 1 = Config.markSamples ↔ s.mark.highRun = 3 := by unfold Config.markSamples; omega
    unfold State.takeRearm
    simp only [hline, hrun, and_assoc]
    rfl
  · refine ⟨fun hr hl => ?_, fun hr hl => ?_, fun hr hl => ?_, fun hr hl => ?_⟩
    · exact MarkUnit.sample_of_ready_high hr (m.line_eq_high_iff.mpr hl)
    · exact MarkUnit.sample_of_ready_low hr (m.line_eq_low_iff.mpr hl)
    · exact MarkUnit.sample_of_held_low hr (m.line_eq_low_iff.mpr hl)
    · exact MarkUnit.sample_of_held_high hr (m.line_eq_high_iff.mpr hl)
  · exact ⟨State.resetForced_of_nextRequest_none, fun p f => State.resetForced_of_nextRequest_some⟩
  · refine ⟨_, rfl, s.takeRecognisedEdge events, State.reachLog_reached _ log, everyOrder_of_exec fun _ => rfl,
      fun h => ?_, fun hout hbar => ?_, fun hsampled hready hrun hlow => ?_⟩
    · refine State.takeRecognisedEdge_of_not (fun ⟨hn, he, _⟩ => ?_) events
      obtain ⟨hr, hl, hlow⟩ := (MarkUnit.sample_edge_iff _).mp he
      rcases h with h | h | h | h
      · exact h hn
      · rw [hr] at h; cases h
      · rw [(MarkUnit.line_eq_high_iff _).mpr ((MarkUnit.released_iff _).mpr h)] at hl; cases hl
      · omega
    · refine State.takeRecognisedEdge_of_not (fun ⟨_, _, hc⟩ => ?_) events
      rcases s.lowCertain_iff.mp hc with h | ⟨-, he, hf⟩
      · rw [hout] at h; cases h
      · rcases hbar with h | h
        · rw [he] at h; cases h
        · rw [hf] at h; cases h
    · have hl : s.mark.line = .low := s.mark.line_eq_low_iff.mpr (hlow.elim .inr fun h => .inl h.1)
      have hs := MarkUnit.sample_of_ready_low hready hl
      rw [if_neg (by omega)] at hs
      have due : s.mark.sampled = .notYet ∧ s.mark.sample.2 = true ∧ s.lowCertain = true :=
        ⟨hsampled, by rw [hs], s.lowCertain_iff.mpr hlow⟩
      intro sampled held aligned captured takers ended
      have taken : ∀ k, s.takeRecognisedEdge k = held.recogniseEdge k := fun k => by
        rw [State.takeRecognisedEdge_of due, hs]
      have hended : ∀ k, held.edgeEnded k = ended k := held.edgeEnded_eq
      refine ⟨⟨_, held.captured_sourceChannels_takers events, (taken events).trans (hended _)⟩, fun k hk => ?_⟩
      refine ⟨(s.takeRecognisedEdge k).reachLog log, rfl, ?_⟩
      rw [taken, State.recogniseEdge_of_takers (s := held) hk, hended]
      exact State.reachLog_reached _ log

end Sys2Proof.Machine

/-! ## The end of a tick: nothing is left (R9, R116; log entry 2) -/

namespace Sys2Proof.Machine

/-! ### What captures at the log leave of the sessions' ranks (R10, R133) -/

theorem Session.levelChecked_rank (head : Seq) (ses : Session) : (ses.levelChecked head).rank = ses.rank := by
  unfold Session.levelChecked
  split
  · rfl
  · split
    · rfl
    · split <;> rfl

theorem Session.lapped_rank (tail : Seq) (ses : Session) : (ses.lapped tail).rank = ses.rank := by
  unfold Session.lapped
  split
  · rfl
  · split <;> rfl

theorem Session.afterDrop_rank (ses : Session) : ses.afterDrop.rank = ses.rank := by
  unfold Session.afterDrop
  split <;> rfl

theorem map_rank_map {f : Session → Session} (h : ∀ ses, (f ses).rank = ses.rank) (x : Option Session) :
    (x.map f).map Session.rank = x.map Session.rank := by
  rw [Option.map_map]
  exact congrArg (fun g => x.map g) (funext h)

theorem State.write_ranks (s : State) (c : Capture) (p : PortId) :
    ((s.write c).session p).map Session.rank = (s.session p).map Session.rank := by
  rw [s.write_session]
  exact map_rank_map (Session.levelChecked_rank _) _

theorem State.capture_ranks (s : State) (c : Capture) (p : PortId) :
    ((s.capture c).1.session p).map Session.rank = (s.session p).map Session.rank := by
  by_cases hroom : s.log.held < Config.logCapacity
  · rw [State.capture_of_room hroom]
    exact s.write_ranks c p
  · by_cases hpin : s.tailPinned = true
    · rw [State.capture_of_pinned hroom hpin]
      have dropped : s.drop.session p = (s.session p).map Session.afterDrop := State.raiseToReaders_logDrop_session _ p
      dsimp only
      rw [dropped]
      exact map_rank_map Session.afterDrop_rank _
    · rw [State.capture_of_full hroom hpin]
      dsimp only
      rw [State.write_ranks, s.evict_session]
      exact map_rank_map (Session.lapped_rank _) _

theorem State.handOver_sessions (s : State) (c : Capture) : (s.handOver c).1.sessions = (s.capture c).1.sessions := by
  unfold State.handOver
  dsimp only
  split <;> rfl

theorem State.handOver_ranks (s : State) (c : Capture) (p : PortId) :
    ((s.handOver c).1.session p).map Session.rank = (s.session p).map Session.rank := by
  rw [State.session, s.handOver_sessions]
  exact s.capture_ranks c p

/-- Captures that reach the log leave every session its rank. -/
theorem State.allReachLog_ranks (s : State) (p : PortId) :
    (s.allReachLog.session p).map Session.rank = (s.session p).map Session.rank :=
  foldl_keeps (fun t : State => (t.session p).map Session.rank) _ (fun t c => t.handOver_ranks c p) s.underway
    { s with underway := [] }

theorem State.allReachLog_only (s : State) : OnlyFiring s s.allReachLog := s.arrive_only _ _

theorem State.allReachLog_mark (s : State) : s.allReachLog.mark = s.mark := by rw [s.allReachLog_only]

/-! ### The next request, found again (R171) -/

theorem State.acceptsReset_of_ranks {s t : State} {p : PortId} (h : (t.session p).map Session.rank = (s.session p).map Session.rank)
    (f : Frame) : t.acceptsReset p f = s.acceptsReset p f := by
  unfold State.acceptsReset
  cases hs : s.session p <;> cases ht : t.session p <;> rw [hs, ht] at h <;> simp_all

theorem State.searchRequest_of_ports {s t : State} (h : t.ports = s.ports) (l : List PortId) :
    t.searchRequest l = s.searchRequest l := by
  induction l with
  | nil => rfl
  | cons p l ih => simp only [State.searchRequest, State.port, h, ih]

/-- The next request depends on the queues, the executor's record, the sample of the MARK line and the ranks alone. -/
theorem State.allReachLog_nextRequest (s : State) : s.allReachLog.nextRequest = s.nextRequest := by
  have hx : s.allReachLog.executor = s.executor := by rw [s.allReachLog_only]
  have hp : s.allReachLog.ports = s.ports := by rw [s.allReachLog_only]
  unfold State.nextRequest
  rw [hx, State.searchRequest_of_ports hp, s.allReachLog_mark]
  simp only [State.acceptsReset_of_ranks (s.allReachLog_ranks _)]

/-- Once the executor has taken a request, there is no next one in the tick. -/
theorem State.nextRequest_of_took {s : State} (h : s.executor.took = true) : s.nextRequest = none := by
  simp [State.nextRequest, h]

/-- A sample of the MARK line brings no request. -/
theorem State.sampleMarkLeft_nextRequest {s : State} (h : s.nextRequest = none) : s.sampleMarkLeft.nextRequest = none := by
  unfold State.sampleMarkLeft
  split
  · next hm =>
    have hx : (s.sampleMark []).executor = s.executor := by rw [s.sampleMark_only []]
    have hp : (s.sampleMark []).ports = s.ports := by rw [s.sampleMark_only []]
    unfold State.nextRequest at h ⊢
    rw [hx, State.searchRequest_of_ports hp]
    split at h
    · next ht => rw [if_pos ht]
    · next ht =>
      rw [if_neg ht]
      cases hs : s.searchRequest (portRotation s.executor.last) with
      | none => rfl
      | some request => simp [hs, hm] at h
  · exact h

/-- The request of a taking counts as the one of the tick (R171). -/
theorem executorTakes_took {s : State} {p : PortId} {f : Frame} {serve : Server} (hn : s.nextRequest = some (p, f))
    (h : ∀ payload, Leaves (WithinTick (s.taken p)) (serve p payload (s.taken p))) :
    (executorTakes p f serve s).executor.took = true := by
  have taken : (s.taken p).executor.took = true := rfl
  cases ha : serve p f.payload (s.taken p) with
  | error code =>
    rw [executorTakes_of_error hn ha]
    rfl
  | ok answer =>
    obtain ⟨payload, t⟩ := answer
    rw [executorTakes_of_ok hn ha]
    exact (h f.payload payload t ha).took taken

theorem serverOf_withinTick (code : Byte) (p : PortId) (payload : List Byte) (s : State) :
    Leaves (WithinTick s) (serverOf code p payload s) := by
  rcases serverOf_mem code with ⟨e, he, h⟩ | h <;> rw [h]
  · exact fun bytes t ht => (requestTable_keepsWindow e he p payload s bytes t ht).2
  · exact leaves_unknownAnswer _ p payload s

/-- Once the executor has taken the next request, it takes no other in the tick (R171). -/
theorem State.takeNextRequest_nextRequest (s : State) : s.takeNextRequest.nextRequest = none := by
  cases h : s.nextRequest with
  | none => rwa [State.takeNextRequest_of_none h]
  | some request =>
    obtain ⟨p, f⟩ := request
    have took : ∀ {t : State}, t.nextRequest = some (p, f) → ∀ code,
        (executorTakes p f (serverOf code) t).executor.took = true := fun ht code =>
      executorTakes_took ht fun payload => serverOf_withinTick code p payload _
    refine State.nextRequest_of_took ?_
    rw [State.takeNextRequest_of_some h]
    split
    · unfold State.takeReset
      split
      · exact (State.discardAll_withinTick _ p).took
          (took (s.allReachLog_nextRequest.trans h) codeDeviceReset)
      · exact took h codeDeviceReset
    · exact took h f.command

/-! ### What each part of the end of a tick takes -/

/-- What a fold within a tick takes of each member is taken at its end. -/
theorem WithinTick.foldl_takes {α : Type} {P : α → State → Prop} {f : State → α → State}
    (keep : ∀ x s t, WithinTick s t → P x s → P x t) (step : ∀ t x, WithinTick t (f t x)) (takes : ∀ t x, P x (f t x))
    (l : List α) (s : State) : ∀ x ∈ l, P x (l.foldl f s) := by
  induction l generalizing s with
  | nil => exact fun _ h => absurd h List.not_mem_nil
  | cons y l ih =>
    rintro x (_ | ⟨_, h⟩)
    · exact keep y _ _ (WithinTick.foldl f step l _) (takes s y)
    · exact ih (f s y) x h

/-- The samples of one axis that a tick still holds (R71, R72). -/
def State.sampleAxisLeft (s : State) (n : AxisId) : State :=
  let t := if (s.axis n).sampledAB then s else s.sampleAB n [] []
  if (t.axis n).sampledZ then t else t.sampleZ n []

theorem State.sampleAxesLeft_eq (s : State) : s.sampleAxesLeft = allAxes.foldl State.sampleAxisLeft s := rfl

theorem State.sampleAxisLeft_withinTick (s : State) (n : AxisId) : WithinTick s (s.sampleAxisLeft n) := by
  have ab : WithinTick s (if (s.axis n).sampledAB then s else s.sampleAB n [] []) :=
    WithinTick.ite (WithinTick.refl s) (s.sampleAB_withinTick n [] [])
  unfold State.sampleAxisLeft
  exact WithinTick.trans _ _ _ ab (WithinTick.ite (WithinTick.refl _) (State.sampleZ_withinTick _ n []))

theorem State.sampleAB_sampledAB (s : State) (n : AxisId) (entries : List EntryId) (channels : List ChannelId) :
    ((s.sampleAB n entries channels).axis n).sampledAB = true := by
  unfold State.sampleAB
  dsimp only
  exact (State.applyDecoded_withinTick _ n _ _ _).sampledAB n (by rw [State.setAxis_axis_same])

theorem State.sampleZ_sampledZ (s : State) (n : AxisId) (channels : List ChannelId) :
    ((s.sampleZ n channels).axis n).sampledZ = true := by
  have h : ∀ x : Axis, x.sampledZ = true → ((s.setAxis n x).axis n).sampledZ = true := fun x hx => by
    rwa [State.setAxis_axis_same]
  unfold State.sampleZ
  dsimp only
  split
  · exact (State.triggerEvents_withinTick _ _).sampledZ n (h _ rfl)
  · exact h _ rfl

theorem State.sampleAxisLeft_sampled (s : State) (n : AxisId) :
    ((s.sampleAxisLeft n).axis n).sampledAB = true ∧ ((s.sampleAxisLeft n).axis n).sampledZ = true := by
  have ab : ((if (s.axis n).sampledAB then s else s.sampleAB n [] []).axis n).sampledAB = true := by
    split
    · next h => exact h
    · exact s.sampleAB_sampledAB n [] []
  unfold State.sampleAxisLeft
  dsimp only
  generalize (if (s.axis n).sampledAB then s else s.sampleAB n [] []) = t at ab ⊢
  split
  · next h => exact ⟨ab, h⟩
  · exact ⟨(State.sampleZ_withinTick _ n []).sampledAB n ab, State.sampleZ_sampledZ _ n []⟩

theorem State.sampleAxesLeft_withinTick (s : State) : WithinTick s s.sampleAxesLeft :=
  WithinTick.foldl _ State.sampleAxisLeft_withinTick allAxes s

theorem State.sampleAxesLeft_sampled (s : State) (n : AxisId) :
    (s.sampleAxesLeft.axis n).sampledAB = true ∧ (s.sampleAxesLeft.axis n).sampledZ = true :=
  WithinTick.foldl_takes (P := fun n t => (t.axis n).sampledAB = true ∧ (t.axis n).sampledZ = true)
    (fun n _ _ h k => ⟨h.sampledAB n k.1, h.sampledZ n k.2⟩) State.sampleAxisLeft_withinTick State.sampleAxisLeft_sampled
    allAxes s n (mem_allAxes n)

/-- The sample of one trigger line that a tick still holds (R45). -/
def State.sampleLineLeft (s : State) (l : LineId) : State := if (s.trigLine l).sampled then s else s.sampleTrigLine l []

theorem State.sampleLinesLeft_eq (s : State) : s.sampleLinesLeft = allLines.foldl State.sampleLineLeft s := rfl

theorem State.sampleLineLeft_withinTick (s : State) (l : LineId) : WithinTick s (s.sampleLineLeft l) :=
  WithinTick.ite (WithinTick.refl s) (s.sampleTrigLine_withinTick l [])

theorem State.sampleTrigLine_sampled (s : State) (l : LineId) (order : List ChannelId) :
    ((s.sampleTrigLine l order).trigLine l).sampled = true := by
  have h : ∀ x : TrigLine, x.sampled = true → ((s.setLine l x).trigLine l).sampled = true := fun x hx => by
    rwa [State.setLine_trigLine_same]
  unfold State.sampleTrigLine
  dsimp only
  split
  · exact (State.triggerEvents_withinTick _ _).sampled l (h _ rfl)
  · exact h _ rfl

theorem State.sampleLineLeft_sampled (s : State) (l : LineId) : ((s.sampleLineLeft l).trigLine l).sampled = true := by
  unfold State.sampleLineLeft
  split
  · next h => exact h
  · exact s.sampleTrigLine_sampled l []

theorem State.sampleLinesLeft_withinTick (s : State) : WithinTick s s.sampleLinesLeft :=
  WithinTick.foldl _ State.sampleLineLeft_withinTick allLines s

theorem State.sampleLinesLeft_sampled (s : State) (l : LineId) : (s.sampleLinesLeft.trigLine l).sampled = true :=
  WithinTick.foldl_takes (P := fun l t => (t.trigLine l).sampled = true) (fun l _ _ h => h.sampled l)
    State.sampleLineLeft_withinTick State.sampleLineLeft_sampled allLines s l (mem_allLines l)

theorem State.takeBurstStep_stepTaken (s : State) (c : ChannelId) : ((s.takeBurstStep c).channel c).StepTaken := by
  by_cases h : (s.channel c).state = .bursting ∧ (s.channel c).stepDue = true
  · have set : (((s.request (s.channelCapture c (s.channel c).nextIndex)).setChannel c
        (s.channel c).afterStep).channel c).StepTaken := by
      rw [State.setChannel_channel_same]
      exact Channel.afterStep_stepTaken _
    rw [State.takeBurstStep_of_due h]
    dsimp only
    split
    · exact set
    · exact (State.raiseToOwner_withinTick _ _ _).steps c set
  · rw [State.takeBurstStep_of_not_due h]
    exact fun hb => Bool.eq_false_iff.mpr fun hd => h ⟨hb, hd⟩

theorem State.burstStepsLeft_withinTick (s : State) : WithinTick s s.burstStepsLeft :=
  WithinTick.foldl _ State.takeBurstStep_withinTick allChannels s

theorem State.burstStepsLeft_stepTaken (s : State) (c : ChannelId) : (s.burstStepsLeft.channel c).StepTaken :=
  WithinTick.foldl_takes (P := fun c t => (t.channel c).StepTaken) (fun c _ _ h => h.steps c)
    State.takeBurstStep_withinTick State.takeBurstStep_stepTaken allChannels s c (mem_allChannels c)

theorem State.takeGatePulseEnd_endDue (s : State) (g : GateId) : ((s.takeGatePulseEnd g).gate g).endDue = false := by
  unfold State.takeGatePulseEnd
  dsimp only
  split
  · rw [State.setGate_gate_same]
  · next h => exact Bool.eq_false_iff.mpr h

theorem State.gatePulseEndsLeft_withinTick (s : State) : WithinTick s s.gatePulseEndsLeft :=
  WithinTick.foldl _ State.takeGatePulseEnd_withinTick allGates s

theorem State.gatePulseEndsLeft_endDue (s : State) (g : GateId) : (s.gatePulseEndsLeft.gate g).endDue = false :=
  WithinTick.foldl_takes (P := fun g t => (t.gate g).endDue = false) (fun g _ _ h => h.gates g)
    State.takeGatePulseEnd_withinTick State.takeGatePulseEnd_endDue allGates s g (mem_allGates g)

theorem State.takeMarkPulseEnd_endDue (s : State) : s.takeMarkPulseEnd.mark.endDue = false := by
  unfold State.takeMarkPulseEnd
  split
  · rfl
  · next h => exact Bool.eq_false_iff.mpr h

/-- The expiry of one port that had to wait for the executor (log entry 10). -/
def State.expireLast (s : State) (p : PortId) : State := if s.expiryDue p then s.expire p else s

theorem State.expiriesLast_eq (s : State) : s.expiriesLast = allPorts.foldl State.expireLast s := rfl

theorem State.expireLast_withinTick (s : State) (p : PortId) : WithinTick s (s.expireLast p) :=
  WithinTick.ite (s.expire_withinTick p) (WithinTick.refl s)

theorem State.expire_session_same (s : State) (p : PortId) : (s.expire p).session p = none := by
  have closed : (s.closeSession p).session p = none := by rw [s.closeSession_session, if_pos rfl]
  unfold State.expire
  generalize s.closeSession p = t at closed ⊢
  exact closed

theorem State.expireLast_expiryDue (s : State) (p : PortId) : (s.expireLast p).expiryDue p = false := by
  unfold State.expireLast
  split
  · rw [State.expiryDue_eq, State.expire_session_same]
    rfl
  · next h => exact Bool.eq_false_iff.mpr h

theorem State.expiriesLeft_withinTick (s : State) : WithinTick s s.expiriesLeft :=
  WithinTick.foldl _ State.takeExpiry_withinTick allPorts s

theorem State.expiriesLast_withinTick (s : State) : WithinTick s s.expiriesLast :=
  WithinTick.foldl _ State.expireLast_withinTick allPorts s

theorem State.expiriesLast_expiryDue (s : State) (p : PortId) : s.expiriesLast.expiryDue p = false :=
  WithinTick.foldl_takes (P := fun p t => t.expiryDue p = false) (fun p _ _ h => h.expiries p)
    State.expireLast_withinTick State.expireLast_expiryDue allPorts s p (mem_allPorts p)

/-! ### The sample of the MARK line, last (R122, R123) -/

theorem State.recogniseEdge_mark (s : State) (order : List ChannelId) : (s.recogniseEdge order).mark = s.mark := by
  have notified : ∀ t : State, t.markNotify.mark = t.mark := fun t => by rw [t.markNotify_only]
  unfold State.recogniseEdge
  dsimp only
  rw [notified, (State.triggerEvents_only _ _).mark, State.markCapture_mark, State.alignAtEdge_mark]

theorem State.sampleMark_mark (s : State) (order : List ChannelId) : (s.sampleMark order).mark = s.mark.sample.1 := by
  unfold State.sampleMark
  dsimp only
  split
  · rw [State.recogniseEdge_mark]
    rfl
  · rfl

theorem MarkUnit.sample_sampled (m : MarkUnit) : m.sample.1.sampled ≠ .notYet := by
  unfold MarkUnit.sample
  split
  · simp
  · split
    · simp
    · unfold MarkUnit.edgeSample
      dsimp only
      split <;> simp
  · simp
  · split <;> simp

theorem State.sampleMarkLeft_withinTick (s : State) : WithinTick s s.sampleMarkLeft :=
  WithinTick.ite (s.sampleMark_withinTick []) (WithinTick.refl s)

theorem State.sampleMarkLeft_sampled (s : State) : s.sampleMarkLeft.mark.sampled ≠ .notYet := by
  unfold State.sampleMarkLeft
  split
  · rw [State.sampleMark_mark]
    exact s.mark.sample_sampled
  · next h => exact h

/-! ### The whole end of a tick -/

theorem State.allReachLog_withinTick (s : State) : WithinTick s s.allReachLog := s.arrive_withinTick _ _

/-- The field side of the end of a tick: the own pulse, the samples, the burst steps and the gate pulses, with their captures. -/
def State.endFieldSide (s : State) : State :=
  s.takeMarkPulseEnd.sampleAxesLeft.sampleLinesLeft.burstStepsLeft.gatePulseEndsLeft.allReachLog

/-- The expiries and the request of the end of a tick. -/
def State.endPorts (s : State) : State := s.expiriesLeft.takeNextRequest.expiriesLast.takeNextRequest

theorem State.finishTick_eq (s : State) : s.finishTick = s.endFieldSide.endPorts.sampleMarkLeft.allReachLog := rfl

theorem State.endPorts_withinTick (s : State) : WithinTick s s.endPorts :=
  WithinTick.trans _ _ _ (WithinTick.trans _ _ _ (WithinTick.trans _ _ _ s.expiriesLeft_withinTick
    (State.takeNextRequest_withinTick _)) (State.expiriesLast_withinTick _)) (State.takeNextRequest_withinTick _)

/-- From the end of the field side on, the tick goes on to its end. -/
theorem State.finishTick_after_endFieldSide (s : State) : WithinTick s.endFieldSide s.finishTick := by
  rw [s.finishTick_eq]
  exact WithinTick.trans _ _ _ (WithinTick.trans _ _ _ s.endFieldSide.endPorts_withinTick (State.sampleMarkLeft_withinTick _))
    (State.allReachLog_withinTick _)

/-- What the field side of a tick holds, taken. -/
structure FieldSideTaken (s : State) : Prop where
  axes : ∀ n, (s.axis n).sampledAB = true ∧ (s.axis n).sampledZ = true
  lines : ∀ l, (s.trigLine l).sampled = true
  pulse : s.mark.endDue = false
  gates : ∀ g, (s.gate g).endDue = false
  steps : ∀ c, (s.channel c).StepTaken

theorem FieldSideTaken.later {s t : State} (h : FieldSideTaken s) (k : WithinTick s t) : FieldSideTaken t where
  axes n := ⟨k.sampledAB n (h.axes n).1, k.sampledZ n (h.axes n).2⟩
  lines l := k.sampled l (h.lines l)
  pulse := k.pulse h.pulse
  gates g := k.gates g (h.gates g)
  steps c := k.steps c (h.steps c)

theorem State.endFieldSide_taken (s : State) : FieldSideTaken s.endFieldSide := by
  unfold State.endFieldSide
  refine FieldSideTaken.later ?_ (State.allReachLog_withinTick _)
  have sampled := State.sampleAxesLeft_withinTick s.takeMarkPulseEnd
  have lines := State.sampleLinesLeft_withinTick s.takeMarkPulseEnd.sampleAxesLeft
  have steps := State.burstStepsLeft_withinTick s.takeMarkPulseEnd.sampleAxesLeft.sampleLinesLeft
  have gates := State.gatePulseEndsLeft_withinTick s.takeMarkPulseEnd.sampleAxesLeft.sampleLinesLeft.burstStepsLeft
  have fromLines := WithinTick.trans _ _ _ steps gates
  have fromAxes := WithinTick.trans _ _ _ lines fromLines
  exact
    { axes := fun n =>
        have h := State.sampleAxesLeft_sampled s.takeMarkPulseEnd n
        ⟨fromAxes.sampledAB n h.1, fromAxes.sampledZ n h.2⟩
      lines := fun l => fromLines.sampled l (State.sampleLinesLeft_sampled _ l)
      pulse := fromAxes.pulse (sampled.pulse s.takeMarkPulseEnd_endDue)
      gates := State.gatePulseEndsLeft_endDue _
      steps := fun c => gates.steps c (State.burstStepsLeft_stepTaken _ c) }

theorem State.endFieldSide_withinTick (s : State) : WithinTick s s.endFieldSide :=
  WithinTick.trans _ _ _ (WithinTick.trans _ _ _ (WithinTick.trans _ _ _ (WithinTick.trans _ _ _ (WithinTick.trans _ _ _
    s.takeMarkPulseEnd_withinTick (State.sampleAxesLeft_withinTick _)) (State.sampleLinesLeft_withinTick _))
    (State.burstStepsLeft_withinTick _)) (State.gatePulseEndsLeft_withinTick _)) (State.allReachLog_withinTick _)

theorem State.finishTick_pending (s : State) : s.finishTick.pending = s.pending :=
  (WithinTick.trans _ _ _ s.endFieldSide_withinTick s.finishTick_after_endFieldSide).pending

theorem State.finishTick_mark (s : State) :
    s.finishTick.mark =
      if s.endFieldSide.endPorts.mark.sampled = .notYet then s.endFieldSide.endPorts.mark.sample.1
      else s.endFieldSide.endPorts.mark := by
  rw [s.finishTick_eq, State.allReachLog_mark, State.sampleMarkLeft]
  split
  · exact State.sampleMark_mark _ _
  · rfl

theorem State.finishTick_sampled (s : State) : s.finishTick.mark.sampled ≠ .notYet := by
  rw [s.finishTick_eq, State.allReachLog_mark]
  exact State.sampleMarkLeft_sampled _

theorem State.finishTick_underway (s : State) : s.finishTick.underway = [] := by
  rw [s.finishTick_eq]
  exact State.allReachLog_underway _

theorem State.finishTick_nextRequest (s : State) : s.finishTick.nextRequest = none := by
  rw [s.finishTick_eq, State.allReachLog_nextRequest]
  exact State.sampleMarkLeft_nextRequest (State.takeNextRequest_nextRequest _)

theorem State.finishTick_expiryDue (s : State) (p : PortId) : s.finishTick.expiryDue p = false := by
  rw [s.finishTick_eq]
  refine (State.allReachLog_withinTick _).expiries p ((State.sampleMarkLeft_withinTick _).expiries p ?_)
  exact (State.takeNextRequest_withinTick _).expiries p (State.expiriesLast_expiryDue _ p)

/-- No expiry is due at a port exactly when its session has no limit or has not reached it (R135). -/
theorem State.expiryDue_eq_false_iff (s : State) (p : PortId) :
    s.expiryDue p = false ↔ ∀ ses, s.session p = some ses → ses.idleLimit = 0 ∨ ses.elapsed < ses.idleLimit.toNat * 10000 := by
  rw [State.expiryDue_eq]
  cases s.session p with
  | none => simp
  | some ses =>
    have hl : ses.limitTicks = ses.idleLimit.toNat * 10000 := rfl
    simp only [Option.map_some, Option.getD_some, Session.expiryDue, hl, decide_eq_false_iff_not, Option.some.injEq,
      forall_eq']
    rw [not_and_or, not_not, Nat.not_le]

/-- At its end a tick holds nothing more. -/
theorem State.finishTick_nothingLeft (s : State) : s.finishTick.nothingLeft := by
  obtain ⟨haxes, hlines, hpulse, hgates, hsteps⟩ := s.endFieldSide_taken.later s.finishTick_after_endFieldSide
  exact ⟨haxes, hlines, s.finishTick_sampled, hpulse, hgates, hsteps,
    fun p => (s.finishTick.expiryDue_eq_false_iff p).mp (s.finishTick_expiryDue p), s.finishTick_nextRequest,
    s.finishTick_underway⟩

end Sys2Proof.Machine

/-! ## The tick: what its end takes as commands, and what its beginning counts (O60) -/

namespace Sys2Proof.Machine

/-! ### A state with nothing left (R116) -/

theorem State.takeMarkPulseEnd_of {s : State} (h : s.mark.endDue = false) : s.takeMarkPulseEnd = s := by
  simp [State.takeMarkPulseEnd, h]

theorem State.takeGatePulseEnd_of {s : State} {g : GateId} (h : (s.gate g).endDue = false) : s.takeGatePulseEnd g = s := by
  simp [State.takeGatePulseEnd, h]

theorem State.takeExpiry_of {s : State} {p : PortId} (h : s.expiryDue p = false) : s.takeExpiry p = s := by
  simp [State.takeExpiry, h]

theorem State.expireLast_of {s : State} {p : PortId} (h : s.expiryDue p = false) : s.expireLast p = s := by
  simp [State.expireLast, h]

theorem State.sampleAxisLeft_of {s : State} {n : AxisId} (h : (s.axis n).sampledAB = true ∧ (s.axis n).sampledZ = true) :
    s.sampleAxisLeft n = s := by
  simp [State.sampleAxisLeft, h]

theorem State.sampleLineLeft_of {s : State} {l : LineId} (h : (s.trigLine l).sampled = true) : s.sampleLineLeft l = s := by
  simp [State.sampleLineLeft, h]

theorem State.sampleMarkLeft_of {s : State} (h : s.mark.sampled ≠ .notYet) : s.sampleMarkLeft = s := if_neg h

theorem State.endFieldSide_of {s : State} (h : FieldSideTaken s) (hu : s.underway = []) : s.endFieldSide = s := by
  have steps : s.burstStepsLeft = s := List.foldl_fixed' (fun c => State.takeBurstStep_of_not_due fun ⟨hb, hd⟩ => by
    rw [h.steps c hb] at hd
    cases hd) allChannels
  have gates : s.gatePulseEndsLeft = s := List.foldl_fixed' (fun g => State.takeGatePulseEnd_of (h.gates g)) allGates
  have axes : s.sampleAxesLeft = s := List.foldl_fixed' (fun n => State.sampleAxisLeft_of (h.axes n)) allAxes
  have lines : s.sampleLinesLeft = s := List.foldl_fixed' (fun l => State.sampleLineLeft_of (h.lines l)) allLines
  rw [State.endFieldSide, State.takeMarkPulseEnd_of h.pulse, axes, lines, steps, gates, State.allReachLog_of hu]

theorem State.endPorts_of {s : State} (he : ∀ p, s.expiryDue p = false) (hn : s.nextRequest = none) : s.endPorts = s := by
  have left : s.expiriesLeft = s := List.foldl_fixed' (fun p => State.takeExpiry_of (he p)) allPorts
  have last : s.expiriesLast = s := List.foldl_fixed' (fun p => State.expireLast_of (he p)) allPorts
  rw [State.endPorts, left, State.takeNextRequest_of_none hn, last, State.takeNextRequest_of_none hn]

/-- With nothing left, the end of a tick changes nothing. -/
theorem State.finishTick_of_nothingLeft {s : State} (h : s.nothingLeft) : s.finishTick = s := by
  obtain ⟨haxes, hlines, hmark, hpulse, hgates, hsteps, hexpiries, hnext, hunderway⟩ := h
  rw [s.finishTick_eq, State.endFieldSide_of ⟨haxes, hlines, hpulse, hgates, hsteps⟩ hunderway,
    State.endPorts_of (fun p => (s.expiryDue_eq_false_iff p).mpr (hexpiries p)) hnext, State.sampleMarkLeft_of hmark,
    State.allReachLog_of hunderway]

/-! ### The level of the tick (R118, R122) -/

/-- The low of a sample, as the recognizer tells it (R123). -/
theorem MarkUnit.sampledLevel_eq_low_iff (m : MarkUnit) :
    m.sampledLevel = .low ↔ (m.recognizer = .ready ∧ m.lowRun ≠ 0) ∨ (m.recognizer = .held ∧ m.highRun = 0) := by
  unfold MarkUnit.sampledLevel
  cases m.recognizer <;> simp

theorem State.finishTick_sampledLevel {s : State} (h : s.endFieldSide.endPorts.mark.sampled = .notYet) :
    s.finishTick.mark.sampledLevel = s.endFieldSide.endPorts.mark.line := by
  rw [s.finishTick_mark, if_pos h, MarkUnit.sample_sampledLevel]

theorem levelCode_eq_ite (level : Level) : levelCode level = if level = .low then 0 else 1 := by cases level <;> rfl

/-! ### What the end of a tick takes, taken by commands (log entry 2) -/

/-- The raw levels that a line shows already, shown again, change nothing. -/
theorem State.setAxis_show_self (s : State) (n : AxisId) :
    s.setAxis n ((s.axis n).show (s.axis n).a.raw (s.axis n).b.raw) = s :=
  congrArg (fun axes => { s with axes := axes }) (Bank.write_read s.axes n)

/-- An axis still to be sampled, shown the levels it shows, takes its sample: no re-arm that stands is in its way. -/
theorem State.showAxis_ab_same {s : State} {n : AxisId} (h : (s.axis n).sampledAB = false) (channels : ChannelOrder) :
    s.showAxis n (.ab (s.axis n).a.raw (s.axis n).b.raw [] channels) = s.sampleAB n [] channels.events := by
  have free : ¬(s.rearmStands && s.startsPulse n) = true := fun hb => by
    obtain ⟨hr, hp⟩ := Bool.and_eq_true_iff.mp hb
    rw [State.startsPulse_of_rearmStands hr n] at hp
    cases hp
  simp only [State.showAxis]
  rw [s.setAxis_show_self n, if_neg (by simp [h]), if_neg free]

theorem State.showAxis_z_same {s : State} {n : AxisId} (h : (s.axis n).sampledZ = false) (channels : ChannelOrder) :
    s.showAxis n (.z (s.axis n).z.raw channels) = s.sampleZ n channels.events := by
  simp only [State.showAxis]
  rw [if_neg (by simp [h])]
  exact congrArg (fun t : State => t.sampleZ n channels.events) (s.setAxis_self n)

theorem State.showTrigLine_same {s : State} {l : LineId} (h : (s.trigLine l).sampled = false) (order : List ChannelId) :
    s.showTrigLine l (s.trigLine l).line.raw order = s.sampleTrigLine l order := by
  unfold State.showTrigLine
  dsimp only
  rw [if_neg (by simp [h])]
  exact congrArg (fun t : State => t.sampleTrigLine l order) (s.setLine_self l)

/-- The sample of the end of the tick is that of RECOGNISED_EDGE, when it gives an edge and its low is certain. -/
theorem State.takeRecognisedEdge_eq_sampleMark {s : State} (he : s.mark.sample.2 = true) (hs : s.mark.sampled = .notYet)
    (hc : s.mark.outside = .low ∨ (s.mark.endDue = false ∧ s.resetForced = false)) (order : List ChannelId) :
    s.takeRecognisedEdge order = s.sampleMark order := by
  have certain : s.lowCertain = true := by
    rw [State.lowCertain_iff]
    rcases (s.mark.line_eq_low_iff.mp (s.mark.sample_edge_iff.mp he).2.1) with hd | ho
    · exact hc.imp_right fun h => ⟨hd, h⟩
    · exact .inl ho
  exact if_pos ⟨hs, he, certain⟩

theorem State.sampleMark_of_no_edge {s : State} (h : s.mark.sample.2 = false) (order : List ChannelId) :
    s.sampleMark order = { s with mark := s.mark.sample.1 } := by
  simp [State.sampleMark, h, State.setMark]

/-- A command that leaves all captures under way does what its happening does, and no more. -/
theorem next_reachLog_leaving {t u : State} (h : t = u) :
    (Host.Outcome.next (t.reachLog { first := [], later := u.underway.length }) : Host.Outcome State Fault Refusal) = .next u := by
  rw [h, State.reachLog_leaving]

/-! ### The beginning of a tick (R116) -/

theorem MarkUnit.tick_eq (m : MarkUnit) :
    m.tick =
      if m.drive = .driving then
        if 1 < m.remaining then { m with remaining := m.remaining - 1, sampled := .notYet }
        else { m with endDue := true, sampled := .notYet }
      else { m with sampled := .notYet } := by
  unfold MarkUnit.tick MarkUnit.tickDrive
  split
  · split <;> rfl
  · rfl

theorem State.beginTick_axis (s : State) (n : AxisId) : s.beginTick.axis n = (s.axis n).tick := Bank.read_mapAll _ _ n
theorem State.beginTick_trigLine (s : State) (l : LineId) : s.beginTick.trigLine l = (s.trigLine l).tick := Bank.read_mapAll _ _ l
theorem State.beginTick_channel (s : State) (c : ChannelId) : s.beginTick.channel c = (s.channel c).tick := Bank.read_mapAll _ _ c
theorem State.beginTick_gate (s : State) (g : GateId) : s.beginTick.gate g = (s.gate g).tick := Bank.read_mapAll _ _ g
theorem State.beginTick_session (s : State) (p : PortId) : s.beginTick.session p = (s.session p).map Session.tick :=
  Bank.read_mapAll _ _ p
theorem State.beginTick_port (s : State) (p : PortId) : s.beginTick.port p = (s.port p).tick s.mark.tickLevel :=
  Bank.read_mapAll _ _ p

theorem State.beginTick_executor (s : State) : s.beginTick.executor = { s.executor with took := false } := rfl
theorem State.beginTick_entries (s : State) : s.beginTick.entries = s.entries := rfl
theorem State.beginTick_claims (s : State) : s.beginTick.claims = s.claims := rfl
theorem State.beginTick_underway (s : State) : s.beginTick.underway = s.underway := rfl
theorem State.beginTick_pending (s : State) : s.beginTick.pending = s.pending := rfl
theorem State.beginTick_discards (s : State) : s.beginTick.discards = s.discards := rfl

/-- The level put in place is that of the tick's sample, in the code of R184. -/
theorem Response.withLevel_eq {level : Level} {low : Prop} [Decidable low] (h : level = .low ↔ low) (r : Response) :
    r.withLevel level =
      if r.levelOpen then
        { r with payload := r.payload.set (r.payload.length - 2) (if low then 0 else 1), levelOpen := false }
      else r := by
  unfold Response.withLevel
  rw [levelCode_eq_ite]
  simp only [h]

theorem Port.tick_eq {level : Level} {settled : Response → Response} (h : ∀ r, r.withLevel level = settled r) (q : Port) :
    q.tick level =
      { q with
        requests := q.requests.map (fun w => { w with joinedNow := false })
        responses := q.responses.map settled
        receive :=
          match q.receive with
          | .inTransaction tr =>
            .inTransaction { tr with chosen := tr.chosen.map settled, gone := tr.gone.map (fun g => (settled g.1, g.2)) }
          | other => other } := by
  have hs : Response.withLevel level = settled := funext h
  unfold Port.tick Port.withLevel ReceiveState.withLevel
  rw [hs]
  cases q.receive <;> rfl

/-- Settles O60: the end of the tick leaves nothing, and its beginning counts. -/
theorem tickTakesWhatIsLeftAndCounts : Obligations.TickTakesWhatIsLeftAndCounts := by
  intro s
  refine ⟨s.finishTick, s.finishTick.beginTick, rfl, ?_⟩
  have hlevel := s.finishTick.mark.sampledLevel_eq_low_iff
  have hsampled := s.finishTick_sampled
  intro low
  refine ⟨?_, fun v => ?_, s.finishTick_nothingLeft, State.finishTick_of_nothingLeft, rfl,
    MarkUnit.tick_eq _, State.beginTick_axis _, State.beginTick_trigLine _, State.beginTick_channel _, State.beginTick_gate _,
    State.beginTick_session _, ?_, State.beginTick_executor _, State.beginTick_log _, State.beginTick_entries _,
    State.beginTick_claims _, (State.beginTick_underway _).trans s.finishTick_underway, State.beginTick_discards _,
    (State.beginTick_pending _).trans s.finishTick_pending⟩
  · intro logged sampled lines ended served last
    have hlast : last = s.endFieldSide.endPorts := rfl
    rw [hlast]
    refine ⟨s.finishTick_eq, fun h => ?_⟩
    rw [← MarkUnit.line_eq_low_iff, ← State.finishTick_sampledLevel h]
    exact hlevel.symm
  · refine ⟨rfl, fun n h => next_reachLog_leaving (State.showAxis_ab_same h _),
      fun n h => next_reachLog_leaving (State.showAxis_z_same h _),
      fun l h => next_reachLog_leaving (State.showTrigLine_same h _), fun c => next_reachLog_leaving rfl, fun g => rfl,
      fun p => rfl, State.takeNextRequest_of_none, fun c p f hw hc hn => ?_, fun h => State.sampleMark_of_no_edge h [],
      fun he hs hc => next_reachLog_leaving (State.takeRecognisedEdge_eq_sampleMark he hs hc [])⟩
    rw [exec_request hw hc, if_pos hn]
  · intro settled p
    have hsettled : ∀ r, Response.withLevel s.finishTick.mark.sampledLevel r = settled r := Response.withLevel_eq hlevel
    rw [← MarkUnit.tickLevel_of_sampled hsampled] at hsettled
    refine (State.beginTick_port _ p).trans ((Port.tick_eq hsettled _).trans ?_)
    cases (s.finishTick.port p).receive <;> rfl

end Sys2Proof.Machine

/-! ## The readers of the log (O6) -/

namespace Sys2Proof.Machine

/-! ### A reader in the window (R25, R26, R31, R33) -/

/-- What R25, R26 and R33 state of a reader: all of `Reader.ok` but the level flag. -/
structure Reader.InWindow (l : CaptureLog) (r : Reader) : Prop where
  cursor : distance r.cursor l.tail ≤ l.held
  watermark_pos : 1 ≤ r.watermark
  watermark_le : r.watermark ≤ Config.logCapacity
  lost_le : r.lost ≤ Config.counterLimit
  keep : r.mode = .keep → r.lost = 0

theorem Reader.ok.inWindow {l : CaptureLog} {r : Reader} (h : r.ok l) : r.InWindow l := by
  obtain ⟨hcursor, hpos, hle, hlost, hkeep, -⟩ := h
  exact ⟨hcursor, hpos, hle, hlost, hkeep⟩

/-- A reader with its level flag as the level check at `head` leaves it (R31). -/
def Reader.leveled (head : Seq) (r : Reader) : Reader := { r with level := decide (r.watermark ≤ distance head r.cursor) }

/-- A reader after the eviction of the record at `tail`: a LOSSY one that stood there is lapped (R12, R33). -/
def Reader.lapped (tail : Seq) (r : Reader) : Reader :=
  if r.mode = .lossy ∧ r.cursor = tail then
    { r with cursor := r.cursor + 1, lost := saturate Config.counterLimit r.lost }
  else r

/-- The level check at the head makes a reader in the window whole (R31). -/
theorem Reader.InWindow.leveled_ok {l : CaptureLog} {r : Reader} (h : r.InWindow l) : (r.leveled l.head).ok l :=
  ⟨h.cursor, h.watermark_pos, h.watermark_le, h.lost_le, h.keep, decide_eq_true_iff⟩

/-- A record appended at the head leaves the readers in the window (R11, R26). -/
theorem Reader.InWindow.append {l : CaptureLog} {r : Reader} (h : r.InWindow l) (hroom : l.held < 256) (records : List Record) :
    r.InWindow { l with records := records, head := l.head + 1 } :=
  { h with
    cursor := by
      have hheld : distance (l.head + 1) l.tail = l.held + 1 := distance_succ hroom
      change distance r.cursor l.tail ≤ distance (l.head + 1) l.tail
      exact hheld ▸ h.cursor.trans (Nat.le_succ _) }

/-- A cursor past the tail of a full window comes one nearer when the tail moves on (R12). -/
theorem distance_evicted {cursor head tail : Seq} (hne : cursor ≠ tail) (h : distance cursor tail ≤ distance head tail)
    (hfull : 256 ≤ distance head tail) : distance cursor (tail + 1) ≤ distance head (tail + 1) := by
  unfold distance at *
  bv_omega

/-- The record at the tail of a full window may go when no KEEP reader stands there: a LOSSY one is lapped (R10, R12, R33). -/
theorem Reader.InWindow.lapped {l : CaptureLog} {r : Reader} (h : r.InWindow l) (hfull : 256 ≤ l.held)
    (hpin : ¬(r.mode = .keep ∧ r.cursor = l.tail)) (records : List Record) :
    (r.lapped l.tail).InWindow { l with records := records, tail := l.tail + 1 } := by
  unfold Reader.lapped
  split
  · next hlap =>
    obtain ⟨hmode, hcursor⟩ := hlap
    have hzero : distance (r.cursor + 1) (l.tail + 1) = 0 := by simp [hcursor, distance]
    exact { h with
      cursor := hzero ▸ Nat.zero_le _
      lost_le := saturate_le h.lost_le
      keep := fun hkeep => by rw [hmode] at hkeep; cases hkeep }
  · next hlap =>
    have hne : r.cursor ≠ l.tail := fun hcursor => by
      cases hmode : r.mode with
      | keep => exact hpin ⟨hmode, hcursor⟩
      | lossy => exact hlap ⟨hmode, hcursor⟩
    exact { h with cursor := distance_evicted hne h.cursor hfull }

/-! ### The readers after a capture request (R10 to R13) -/

theorem Session.levelChecked_reader (head : Seq) (ses : Session) :
    (ses.levelChecked head).reader = ses.reader.map (Reader.leveled head) := by
  unfold Session.levelChecked
  cases hr : ses.reader with
  | none => simp [hr]
  | some r =>
    obtain ⟨mode, cursor, watermark, level, lost⟩ := r
    dsimp only
    by_cases hw : distance head cursor < watermark
    · simp [hw, Reader.leveled]
    · cases level <;> simp [hw, hr, Reader.leveled, Nat.not_lt.mp hw]

theorem Session.lapped_reader (tail : Seq) (ses : Session) :
    (ses.lapped tail).reader = ses.reader.map (Reader.lapped tail) := by
  unfold Session.lapped
  cases hr : ses.reader with
  | none => simp [hr]
  | some r =>
    dsimp only [Option.map_some, Reader.lapped]
    split
    · rfl
    · exact hr

theorem Session.afterDrop_reader (ses : Session) : ses.afterDrop.reader = ses.reader := by
  unfold Session.afterDrop
  split <;> rfl

/-- What is done to the reader of a session is done to the reader of its port. -/
theorem State.reader_of_session_map {s t : State} {p : PortId} {f : Session → Session} {g : Reader → Reader}
    (hf : ∀ ses, (f ses).reader = ses.reader.map g) (h : t.session p = (s.session p).map f) :
    t.reader p = (s.reader p).map g := by
  rw [State.reader_eq, State.reader_eq, h]
  cases s.session p with
  | none => rfl
  | some ses => exact hf ses

theorem State.write_reader (s : State) (c : Capture) (p : PortId) :
    (s.write c).reader p = (s.reader p).map (Reader.leveled (s.log.head + 1)) :=
  State.reader_of_session_map (Session.levelChecked_reader _) (s.write_session c p)

theorem State.evict_reader (s : State) (p : PortId) : s.evict.reader p = (s.reader p).map (Reader.lapped s.log.tail) :=
  State.reader_of_session_map (Session.lapped_reader _) (s.evict_session p)

theorem State.drop_reader (s : State) (p : PortId) : s.drop.reader p = s.reader p := by
  refine (State.reader_of_session_map (g := id) (fun ses => ?_) (State.raiseToReaders_logDrop_session _ p)).trans ?_
  · rw [Session.afterDrop_reader, Option.map_id_apply]
  · exact Option.map_id_apply

/-- A write checks every level anew, so it asks of the readers only that they are in the window (R11). -/
theorem State.write_readersOk {s : State} (h : ∀ p r, s.reader p = some r → r.InWindow s.log) (hroom : s.log.held < 256)
    (c : Capture) : (s.write c).readersOk := by
  intro p r hr
  rw [State.write_reader, Option.map_eq_some_iff] at hr
  obtain ⟨r₀, hr₀, rfl⟩ := hr
  rw [s.write_log]
  exact ((h p r₀ hr₀).append hroom _).leveled_ok

/-- A drop moves neither window nor readers (R13). -/
theorem State.drop_readersOk {s : State} (h : s.readersOk) : s.drop.readersOk := by
  intro p r hr
  rw [s.drop_reader] at hr
  rw [s.drop_log]
  exact h p r hr

/-- An eviction that no KEEP reader pins leaves every reader in the window (R10, R12). -/
theorem State.evict_inWindow {s : State} (h : s.readersOk) (hfull : 256 ≤ s.log.held) (hpin : ¬s.tailPinned = true) (p : PortId)
    (r : Reader) (hr : s.evict.reader p = some r) : r.InWindow s.evict.log := by
  rw [State.evict_reader, Option.map_eq_some_iff] at hr
  obtain ⟨r₀, hr₀, rfl⟩ := hr
  rw [s.evict_log]
  exact (h p r₀ hr₀).inWindow.lapped hfull (fun hkeep => hpin (s.tailPinned_iff.mpr ⟨p, r₀, hr₀, hkeep⟩)) _

/-- An eviction makes room for one record (R12). -/
theorem State.evict_room {s : State} (h : s.log.ok) (hfull : 256 ≤ s.log.held) : s.evict.log.held < 256 := by
  obtain ⟨-, hle, -, -⟩ := h
  have hheld : distance s.log.head (s.log.tail + 1) = s.log.held - 1 := distance_of_succ hfull
  have hcap : s.log.held ≤ 256 := hle
  rw [s.evict_log]
  change distance s.log.head (s.log.tail + 1) < 256
  omega


/-! ### What leaves the log and the readers as they stand -/

/-- The window is in order and every reader stands in it: what every step keeps. -/
def State.windowOk (s : State) : Prop := s.log.ok ∧ s.readersOk

/-- From `s` to `t` the log is as it was, and every reader is one that stood in `s`. -/
structure KeepsReaders (s t : State) : Prop where
  log : t.log = s.log
  reader : ∀ p r, t.reader p = some r → s.reader p = some r

namespace KeepsReaders

@[refl] theorem refl (s : State) : KeepsReaders s s := ⟨rfl, fun _ _ h => h⟩

theorem trans (s t u : State) (h : KeepsReaders s t) (k : KeepsReaders t u) : KeepsReaders s u :=
  ⟨k.log.trans h.log, fun p r hr => h.reader p r (k.reader p r hr)⟩

/-- A fold of operations that keep the readers keeps them. -/
theorem foldl {α : Type} (f : State → α → State) (h : ∀ t x, KeepsReaders t (f t x)) (l : List α) (s : State) :
    KeepsReaders s (l.foldl f s) := foldl_reaches KeepsReaders refl trans f h l s

/-- A choice between operations that keep the readers keeps them. -/
theorem ite {b : Prop} [Decidable b] {s t u : State} (h : KeepsReaders s t) (k : KeepsReaders s u) :
    KeepsReaders s (if b then t else u) := by
  split
  · exact h
  · exact k

/-- An operation that leaves the log and the sessions alone keeps the readers. -/
theorem of_sessions {s t : State} (hl : t.log = s.log) (hs : t.sessions = s.sessions) : KeepsReaders s t :=
  ⟨hl, fun p r hr => by rwa [State.reader, State.session, hs] at hr⟩

theorem windowOk {s t : State} (h : KeepsReaders s t) (hs : s.windowOk) : t.windowOk := by
  obtain ⟨hlog, hreaders⟩ := hs
  exact ⟨h.log ▸ hlog, fun p r hr => h.log ▸ hreaders p r (h.reader p r hr)⟩

end KeepsReaders

/-! ### Window and readers after a capture request (R10) -/

/-- Whatever becomes of a capture request, window and readers stand (R10). -/
theorem State.capture_windowOk (s : State) (c : Capture) (h : s.windowOk) : (s.capture c).1.windowOk := by
  obtain ⟨hlog, hreaders⟩ := h
  refine ⟨s.capture_keepsWindow c hlog, ?_⟩
  by_cases hroom : s.log.held < Config.logCapacity
  · rw [State.capture_of_room hroom]
    exact State.write_readersOk (fun p r hr => (hreaders p r hr).inWindow) hroom c
  · have hfull : 256 ≤ s.log.held := Nat.not_lt.mp hroom
    by_cases hpin : s.tailPinned = true
    · rw [State.capture_of_pinned hroom hpin]
      exact State.drop_readersOk hreaders
    · rw [State.capture_of_full hroom hpin]
      dsimp only
      exact State.write_readersOk (State.evict_inWindow hreaders hfull hpin) (State.evict_room hlog hfull) c

theorem State.handOver_windowOk (s : State) (c : Capture) (h : s.windowOk) : (s.handOver c).1.windowOk := by
  have outcome : KeepsReaders (s.capture c).1 (s.handOver c).1 := .of_sessions (s.handOver_log c) (s.handOver_sessions c)
  exact outcome.windowOk (s.capture_windowOk c h)

theorem State.arrive_windowOk (s : State) (now rest : List Capture) (h : s.windowOk) : (s.arrive now rest).windowOk :=
  foldl_preserves State.windowOk _ State.handOver_windowOk now _ (KeepsReaders.windowOk (.of_sessions rfl rfl) h)

/-! ### The updates of one unit -/

theorem OnlyGates.keepsReaders {s t : State} (h : OnlyGates s t) : KeepsReaders s t := .of_sessions (by rw [h]) (by rw [h])
theorem OnlyMet.keepsReaders {s t : State} (h : OnlyMet s t) : KeepsReaders s t := .of_sessions (by rw [h]) (by rw [h])
theorem OnlyPark.keepsReaders {s t : State} (h : OnlyPark s t) : KeepsReaders s t := .of_sessions (by rw [h]) (by rw [h])

theorem State.setTime_keepsReaders (s : State) (t : Timebase) : KeepsReaders s (s.setTime t) := .of_sessions rfl rfl
theorem State.setMark_keepsReaders (s : State) (m : MarkUnit) : KeepsReaders s (s.setMark m) := .of_sessions rfl rfl
theorem State.setAxis_keepsReaders (s : State) (n : AxisId) (x : Axis) : KeepsReaders s (s.setAxis n x) := .of_sessions rfl rfl
theorem State.setLine_keepsReaders (s : State) (l : LineId) (x : TrigLine) : KeepsReaders s (s.setLine l x) := .of_sessions rfl rfl
theorem State.setChannel_keepsReaders (s : State) (c : ChannelId) (x : Channel) : KeepsReaders s (s.setChannel c x) :=
  .of_sessions rfl rfl
theorem State.setGate_keepsReaders (s : State) (g : GateId) (x : Gate) : KeepsReaders s (s.setGate g x) := .of_sessions rfl rfl
theorem State.setOwner_keepsReaders (s : State) (r : Resource) (o : Option PortId) : KeepsReaders s (s.setOwner r o) :=
  .of_sessions rfl rfl
theorem State.setPort_keepsReaders (s : State) (p : PortId) (q : Port) : KeepsReaders s (s.setPort p q) := .of_sessions rfl rfl
theorem State.request_keepsReaders (s : State) (c : Capture) : KeepsReaders s (s.request c) := .of_sessions rfl rfl
theorem State.discardQueues_keepsReaders (s : State) (p : PortId) (kept : Nat) : KeepsReaders s (s.discardQueues p kept) :=
  .of_sessions rfl rfl

/-! ### Sessions and events (R138, R152) -/

/-- A session set to one with the reader of the port's session, or with none, brings no new reader. -/
theorem State.setSession_keepsReaders {s : State} {p : PortId} {x : Option Session}
    (hx : ∀ r, x.bind Session.reader = some r → s.reader p = some r) : KeepsReaders s (s.setSession p x) := by
  refine ⟨rfl, fun q r hr => ?_⟩
  rw [State.reader_eq, State.setSession_session] at hr
  split at hr
  · next hq => exact hq ▸ hx r hr
  · rwa [State.reader_eq]

theorem State.setSession_sameReader_keepsReaders {s : State} {p : PortId} {ses new : Session} (hs : s.session p = some ses)
    (hr : new.reader = ses.reader) : KeepsReaders s (s.setSession p (some new)) :=
  State.setSession_keepsReaders fun r h => by
    rw [State.reader_eq, hs]
    exact hr.symm.trans h

theorem State.raiseTo_keepsReaders (s : State) (p : PortId) (ev : Event) : KeepsReaders s (s.raiseTo p ev) := by
  unfold State.raiseTo
  split
  · exact KeepsReaders.refl s
  · next ses hs => exact State.setSession_sameReader_keepsReaders hs rfl

theorem State.raiseToOwner_keepsReaders (s : State) (r : Resource) (ev : Event) : KeepsReaders s (s.raiseToOwner r ev) := by
  unfold State.raiseToOwner
  split
  · exact KeepsReaders.refl s
  · exact s.raiseTo_keepsReaders _ ev

theorem State.raiseToAll_keepsReaders (s : State) (ev : Event) : KeepsReaders s (s.raiseToAll ev) :=
  KeepsReaders.foldl _ (fun t p => t.raiseTo_keepsReaders p ev) allPorts s

/-- A raising to the owner of a resource after what keeps the readers. -/
theorem KeepsReaders.raiseToOwner {s t : State} (h : KeepsReaders s t) (r : Resource) (ev : Event) :
    KeepsReaders s (t.raiseToOwner r ev) := trans _ _ _ h (t.raiseToOwner_keepsReaders r ev)

theorem State.closeSession_keepsReaders (s : State) (p : PortId) : KeepsReaders s (s.closeSession p) := by
  rw [s.closeSession_eq]
  exact KeepsReaders.trans _ _ _ (s.closeSession_fold_only p).keepsReaders
    (State.setSession_keepsReaders fun _ h => by cases h)

theorem State.expire_keepsReaders (s : State) (p : PortId) : KeepsReaders s (s.expire p) := by
  unfold State.expire
  exact KeepsReaders.trans _ _ _ (KeepsReaders.trans _ _ _ (s.closeSession_keepsReaders p)
    (State.discardQueues_keepsReaders _ p 0)) (State.setPort_keepsReaders _ p _)

theorem State.takeExpiry_keepsReaders (s : State) (p : PortId) : KeepsReaders s (s.takeExpiry p) :=
  KeepsReaders.ite (s.expire_keepsReaders p) (KeepsReaders.refl s)

theorem State.expireLast_keepsReaders (s : State) (p : PortId) : KeepsReaders s (s.expireLast p) :=
  KeepsReaders.ite (s.expire_keepsReaders p) (KeepsReaders.refl s)

/-! ### Channels and lines (R45, R51, R52, R54) -/

theorem State.fire_keepsReaders (s : State) (c : ChannelId) : KeepsReaders s (s.fire c) := by
  have noticed : KeepsReaders s (s.noticeAll c) := .of_sessions (s.noticeAll_only c).log (s.noticeAll_sessions c)
  unfold State.fire
  dsimp only
  exact KeepsReaders.trans _ _ _
    (KeepsReaders.ite (noticed.raiseToOwner _ _) noticed) (State.setChannel_keepsReaders _ c _)

theorem State.triggerEvent_keepsReaders (s : State) (c : ChannelId) : KeepsReaders s (s.triggerEvent c) := by
  unfold State.triggerEvent
  dsimp only
  split
  · exact KeepsReaders.refl s
  · exact KeepsReaders.refl s
  · exact KeepsReaders.trans _ _ _ (s.request_keepsReaders _) (State.fire_keepsReaders _ c)
  · exact (s.setChannel_keepsReaders c _).raiseToOwner _ _
  · exact (s.setChannel_keepsReaders c _).raiseToOwner _ _

theorem State.triggerEvents_keepsReaders (s : State) (l : List ChannelId) : KeepsReaders s (s.triggerEvents l) :=
  KeepsReaders.foldl _ State.triggerEvent_keepsReaders l s

/-- Trigger events after what keeps the readers. -/
theorem KeepsReaders.triggerEvents {s t : State} (h : KeepsReaders s t) (l : List ChannelId) :
    KeepsReaders s (t.triggerEvents l) := trans _ _ _ h (t.triggerEvents_keepsReaders l)

theorem State.takeBurstStep_keepsReaders (s : State) (c : ChannelId) : KeepsReaders s (s.takeBurstStep c) := by
  have stepped := KeepsReaders.trans _ _ _ (s.request_keepsReaders (s.channelCapture c (s.channel c).nextIndex))
    (State.setChannel_keepsReaders _ c (s.channel c).afterStep)
  unfold State.takeBurstStep
  dsimp only
  exact KeepsReaders.ite (KeepsReaders.ite stepped (stepped.raiseToOwner _ _)) (KeepsReaders.refl s)

theorem State.sampleTrigLine_keepsReaders (s : State) (l : LineId) (order : List ChannelId) :
    KeepsReaders s (s.sampleTrigLine l order) := by
  unfold State.sampleTrigLine
  dsimp only
  exact KeepsReaders.ite ((s.setLine_keepsReaders l _).triggerEvents _) (s.setLine_keepsReaders l _)

theorem State.showTrigLine_keepsReaders (s : State) (l : LineId) (raw : Level) (order : List ChannelId) :
    KeepsReaders s (s.showTrigLine l raw order) := by
  have shown := s.setLine_keepsReaders l
  unfold State.showTrigLine
  dsimp only
  exact KeepsReaders.ite (shown _) (KeepsReaders.trans _ _ _ (shown _) (State.sampleTrigLine_keepsReaders _ l order))

/-! ### Offers and axes (R72, R87, R99, R100) -/

theorem State.requestMark_keepsReaders (s : State) (e : EntryId) : KeepsReaders s (s.requestMark e) := by
  unfold State.requestMark
  exact KeepsReaders.ite (s.setMark_keepsReaders _) (s.setEntry_only e _).keepsReaders

theorem State.hit_keepsReaders (s : State) (e : EntryId) : KeepsReaders s (s.hit e) := by
  unfold State.hit
  dsimp only
  have recorded := (s.setEntry_only e ((s.entry e).recordHit s.stamp)).keepsReaders
  have told : KeepsReaders s (if (s.entry e).event then
      (s.setEntry e ((s.entry e).recordHit s.stamp)).raiseToOwner (.entry e) (.cmpHit e)
      else s.setEntry e ((s.entry e).recordHit s.stamp)) :=
    KeepsReaders.ite (recorded.raiseToOwner _ _) recorded
  have pulsed := KeepsReaders.trans _ _ _ told (State.pulseGates_only _ e).keepsReaders
  exact KeepsReaders.ite (KeepsReaders.trans _ _ _ pulsed (State.requestMark_keepsReaders _ e)) pulsed

theorem State.offerEntry_keepsReaders (kind : OfferKind) (v : Int) (s : State) (e : EntryId) :
    KeepsReaders s (State.offerEntry kind v s e) := by
  have met := (s.setMet_only e ((s.entry e).condition v)).keepsReaders
  unfold State.offerEntry
  dsimp only
  exact KeepsReaders.ite (KeepsReaders.refl s)
    (KeepsReaders.ite (KeepsReaders.trans _ _ _ met (State.hit_keepsReaders _ e)) met)

theorem State.offer_keepsReaders (s : State) (n : AxisId) (kind : OfferKind) (entries : List EntryId) :
    KeepsReaders s (s.offer n kind entries) :=
  KeepsReaders.foldl _ (State.offerEntry_keepsReaders kind _) _ s

/-- An axis set anew, which then offers its count. -/
theorem State.setAxis_offer_keepsReaders (s : State) (n : AxisId) (x : Axis) (kind : OfferKind) (entries : List EntryId) :
    KeepsReaders s ((s.setAxis n x).offer n kind entries) :=
  KeepsReaders.trans _ _ _ (s.setAxis_keepsReaders n x) (State.offer_keepsReaders _ n kind entries)

theorem State.faultAxis_keepsReaders (s : State) (n : AxisId) (x : Axis) (cause : FaultCause) :
    KeepsReaders s (s.faultAxis n x cause) := (s.setAxis_keepsReaders n _).raiseToOwner _ _

theorem State.applyDecoded_keepsReaders (s : State) (n : AxisId) (d : Decoded) (entries : List EntryId)
    (channels : List ChannelId) : KeepsReaders s (s.applyDecoded n d entries channels) := by
  unfold State.applyDecoded
  dsimp only
  split
  · exact KeepsReaders.refl s
  · split
    · exact KeepsReaders.refl s
    · exact s.faultAxis_keepsReaders n _ _
    · split
      · exact (s.setAxis_offer_keepsReaders n _ .step entries).triggerEvents _
      · exact s.faultAxis_keepsReaders n _ _

theorem State.sampleAB_keepsReaders (s : State) (n : AxisId) (entries : List EntryId) (channels : List ChannelId) :
    KeepsReaders s (s.sampleAB n entries channels) := by
  unfold State.sampleAB
  exact KeepsReaders.trans _ _ _ (s.setAxis_keepsReaders n _) (State.applyDecoded_keepsReaders _ n _ entries channels)

theorem State.sampleZ_keepsReaders (s : State) (n : AxisId) (channels : List ChannelId) :
    KeepsReaders s (s.sampleZ n channels) := by
  unfold State.sampleZ
  dsimp only
  exact KeepsReaders.ite ((s.setAxis_keepsReaders n _).triggerEvents _) (s.setAxis_keepsReaders n _)

theorem State.showAxis_keepsReaders (s : State) (n : AxisId) (input : AxisInput) : KeepsReaders s (s.showAxis n input) := by
  have shown := s.setAxis_keepsReaders n
  cases input with
  | ab a b entries channels =>
    have sampled := s.sampleAB_keepsReaders n entries channels.events
    exact KeepsReaders.ite (shown _) (KeepsReaders.ite (KeepsReaders.trans _ _ _ sampled (State.setAxis_keepsReaders _ n _))
      (KeepsReaders.trans _ _ _ (shown _) (State.sampleAB_keepsReaders _ n _ _)))
  | z z channels =>
    exact KeepsReaders.ite (shown _) (KeepsReaders.trans _ _ _ (shown _) (State.sampleZ_keepsReaders _ n _))

/-! ### The MARK line (R120, R123, R124, R126) -/

theorem State.takeMarkPulseEnd_keepsReaders (s : State) : KeepsReaders s s.takeMarkPulseEnd :=
  KeepsReaders.ite (s.setMark_keepsReaders _) (KeepsReaders.refl s)

theorem State.takeRearm_keepsReaders (s : State) : KeepsReaders s s.takeRearm :=
  KeepsReaders.ite (s.setMark_keepsReaders _) (KeepsReaders.refl s)

theorem State.alignAtEdge_keepsReaders (s : State) : KeepsReaders s s.alignAtEdge := by
  unfold State.alignAtEdge
  exact KeepsReaders.ite (KeepsReaders.trans _ _ _ (s.setTime_keepsReaders _) (State.raiseToAll_keepsReaders _ _))
    (KeepsReaders.refl s)

theorem State.markCapture_keepsReaders (s : State) : KeepsReaders s s.markCapture :=
  KeepsReaders.ite (KeepsReaders.refl s) (s.request_keepsReaders _)

theorem State.markNotify_keepsReaders (s : State) : KeepsReaders s s.markNotify :=
  KeepsReaders.ite (s.raiseToAll_keepsReaders _) (KeepsReaders.refl s)

theorem State.recogniseEdge_keepsReaders (s : State) (order : List ChannelId) : KeepsReaders s (s.recogniseEdge order) := by
  have captured := KeepsReaders.trans _ _ _ s.alignAtEdge_keepsReaders (State.markCapture_keepsReaders _)
  exact KeepsReaders.trans _ _ _ (captured.triggerEvents _) (State.markNotify_keepsReaders _)

theorem State.sampleMark_keepsReaders (s : State) (order : List ChannelId) : KeepsReaders s (s.sampleMark order) := by
  have sampled := s.setMark_keepsReaders s.mark.sample.1
  exact KeepsReaders.ite (KeepsReaders.trans _ _ _ sampled (State.recogniseEdge_keepsReaders _ order)) sampled

theorem State.takeRecognisedEdge_keepsReaders (s : State) (order : List ChannelId) :
    KeepsReaders s (s.takeRecognisedEdge order) :=
  KeepsReaders.ite (s.sampleMark_keepsReaders order) (KeepsReaders.refl s)

/-! ### Host ports (R134, R162 to R168) -/

theorem State.unblock_keepsReaders (s : State) (p : PortId) : KeepsReaders s (s.unblock p) :=
  .of_sessions (s.unblock_log p) (by unfold State.unblock; dsimp only; split <;> rfl)

theorem State.beginTransaction_keepsReaders (s : State) (p : PortId) : KeepsReaders s (s.beginTransaction p) :=
  .of_sessions (s.beginTransaction_log p) (by unfold State.beginTransaction; dsimp only; split <;> rfl)

theorem State.showStatus_keepsReaders (s : State) (p : PortId) (received : Byte) : KeepsReaders s (s.showStatus p received) := by
  unfold State.showStatus
  dsimp only
  split
  · exact KeepsReaders.refl s
  · exact KeepsReaders.refl s
  · exact KeepsReaders.ite (KeepsReaders.refl s) (s.setPort_keepsReaders p _)

theorem State.deliverResponse_keepsReaders (s : State) (p : PortId) (received : List Byte) :
    KeepsReaders s (s.deliverResponse p received) := by
  unfold State.deliverResponse
  dsimp only
  split
  · exact KeepsReaders.refl s
  · exact KeepsReaders.refl s
  · split
    · exact KeepsReaders.refl s
    · exact KeepsReaders.ite (s.setPort_keepsReaders p _) (KeepsReaders.refl s)

theorem State.reloadTimer_keepsReaders (s : State) (p : PortId) : KeepsReaders s (s.reloadTimer p) := by
  unfold State.reloadTimer
  split
  · exact KeepsReaders.refl s
  · next ses hs => exact State.setSession_sameReader_keepsReaders hs rfl

theorem State.acceptFrame_keepsReaders (s : State) (p : PortId) (incoming : List Byte) (f : Frame) :
    KeepsReaders s (s.acceptFrame p incoming f) :=
  KeepsReaders.trans _ _ _ (s.setPort_keepsReaders p _) (State.reloadTimer_keepsReaders _ p)

theorem State.endTransaction_keepsReaders (s : State) (p : PortId) (received : List Byte) :
    KeepsReaders s (s.endTransaction p received) := by
  have before : KeepsReaders s (s.beforeFrame p) := KeepsReaders.ite (s.expire_keepsReaders p) (KeepsReaders.refl s)
  unfold State.endTransaction
  dsimp only
  split
  · exact KeepsReaders.refl s
  · exact KeepsReaders.refl s
  · split
    · exact s.setPort_keepsReaders p _
    · exact s.setPort_keepsReaders p _
    · exact KeepsReaders.trans _ _ _ before (State.acceptFrame_keepsReaders _ p _ _)

end Sys2Proof.Machine

/-! ## Every step keeps the readers (O6) -/

namespace Sys2Proof.Machine

/-! ### A reader set anew and checked (R31) -/

/-- A reader in the window, set and then checked, is whole, and the other readers stand. -/
theorem State.setReader_levelCheck_windowOk {s : State} {p : PortId} {ses : Session} {r : Reader} (hs : s.session p = some ses)
    (hr : r.InWindow s.log) (h : s.windowOk) : ((s.setReader p (some r)).levelCheck p).windowOk := by
  obtain ⟨hlog, hreaders⟩ := h
  have sameLog := s.setReader_levelCheck_log p (some r)
  refine ⟨sameLog ▸ hlog, fun q r' hr' => ?_⟩
  rw [State.reader_eq, State.setReader_levelCheck_session hs] at hr'
  rw [sameLog]
  split at hr'
  · rw [Option.bind_some, Session.levelChecked_reader] at hr'
    cases hr'
    exact hr.leveled_ok
  · exact hreaders q r' (by rwa [State.reader_eq])

/-- A cursor moved forward inside the unread records stays in the window (R26, R37). -/
theorem Reader.InWindow.moved {l : CaptureLog} {r : Reader} (h : r.InWindow l) {next : Seq}
    (hd : distance next r.cursor ≤ l.unread r) : Reader.InWindow l { r with cursor := next } :=
  { h with
    cursor := by
      have hcursor : distance r.cursor l.tail ≤ distance l.head l.tail := h.cursor
      change distance next l.tail ≤ distance l.head l.tail
      unfold CaptureLog.unread distance at *
      bv_omega }

/-- A new reader stands at the tail or at the head (R28). -/
theorem Reader.inWindow_new (l : CaptureLog) (mode : ReaderMode) (oldest : Bool) {watermark : Nat}
    (hw : 1 ≤ watermark ∧ watermark ≤ Config.logCapacity) :
    Reader.InWindow l { mode := mode, cursor := if oldest then l.tail else l.head, watermark := watermark, level := false,
                        lost := 0 } where
  cursor := by
    cases oldest
    · exact le_refl (distance l.head l.tail)
    · have hzero : distance l.tail l.tail = 0 := by simp [distance]
      exact hzero.trans_le (Nat.zero_le _)
  watermark_pos := hw.1
  watermark_le := hw.2
  lost_le := Nat.zero_le _
  keep := fun _ => rfl

/-! ### The requests that leave the log and the readers as they stand -/

/-- A request that leaves the log as it is, and no new reader. -/
def Server.LeavesReaders (serve : Server) : Prop := ∀ p payload s, Leaves (KeepsReaders s) (serve p payload s)

/-- A request that only reports. -/
theorem leaves_same {s : State} (payload : List Byte) : Leaves (KeepsReaders s) (.ok (payload, s)) :=
  leaves_ok (KeepsReaders.refl s)

theorem openServer_leavesReaders : Server.LeavesReaders openServer := fun _ _ _ =>
  leaves_bind fun _ _ => leaves_bind fun _ _ => leaves_bind fun _ _ => leaves_bind fun _ _ =>
    leaves_ok (State.setSession_keepsReaders fun _ h => by cases h)

theorem closeServer_leavesReaders : Server.LeavesReaders closeServer := fun p _ s =>
  leaves_sessionRequest fun _ _ _ => leaves_ok (s.closeSession_keepsReaders p)

theorem pingServer_leavesReaders : Server.LeavesReaders pingServer := fun _ _ _ =>
  leaves_sessionRequest fun _ _ _ => leaves_same _

theorem deviceInfoServer_leavesReaders : Server.LeavesReaders deviceInfoServer := fun _ _ _ =>
  leaves_sessionRequest fun _ _ _ => leaves_same _

theorem claimServer_leavesReaders : Server.LeavesReaders claimServer := fun p _ s =>
  leaves_sessionRequest fun _ _ _ => leaves_bind fun r _ => leaves_bind fun _ _ => by
    have claimed := s.setOwner_keepsReaders r (some p)
    split
    · exact leaves_ok claimed
    · split
      · exact leaves_same _
      · split
        · exact leaves_error _
        · split
          · exact leaves_ok (KeepsReaders.trans _ _ _ claimed (State.raiseTo_keepsReaders _ _ _))
          · exact leaves_error _

theorem releaseServer_leavesReaders : Server.LeavesReaders releaseServer := fun _ _ s =>
  leaves_sessionRequest fun _ _ _ => leaves_bind fun r _ => leaves_bind fun _ _ => leaves_ok (s.giveUp_only r).keepsReaders

theorem whoOwnsServer_leavesReaders : Server.LeavesReaders whoOwnsServer := fun _ _ _ =>
  leaves_sessionRequest fun _ _ _ => by
    unfold whoOwnsBody
    split
    · exact leaves_same _
    · exact leaves_bind fun _ _ => leaves_same _

theorem axisSetupServer_leavesReaders : Server.LeavesReaders axisSetupServer := fun _ _ s =>
  leaves_sessionRequest fun _ _ _ => leaves_bind fun n _ => leaves_bind fun _ _ => leaves_bind fun _ _ =>
    leaves_bind fun _ _ => leaves_bind fun _ _ => leaves_ok (s.setAxis_keepsReaders n _)

theorem axisSpanServer_leavesReaders : Server.LeavesReaders axisSpanServer := fun _ _ s =>
  leaves_sessionRequest fun _ _ _ => leaves_bind fun n _ => leaves_bind fun _ _ => leaves_bind fun _ _ =>
    leaves_ok (s.setAxis_offer_keepsReaders n _ _ _)

theorem axisPresetServer_leavesReaders : Server.LeavesReaders axisPresetServer := fun _ _ s =>
  leaves_sessionRequest fun _ _ _ => leaves_bind fun n _ => leaves_bind fun _ _ => leaves_bind fun _ _ =>
    leaves_bind fun _ _ => leaves_ok (s.setAxis_offer_keepsReaders n _ _ _)

theorem axisClearFaultServer_leavesReaders : Server.LeavesReaders axisClearFaultServer := fun _ _ s =>
  leaves_sessionRequest fun _ _ _ => leaves_bind fun n _ => leaves_bind fun _ _ => leaves_bind fun _ _ =>
    leaves_bind fun _ _ => leaves_ok (s.setAxis_offer_keepsReaders n _ _ _)

theorem axisReadServer_leavesReaders : Server.LeavesReaders axisReadServer := fun _ _ _ =>
  leaves_sessionRequest fun _ _ _ => leaves_bind fun _ _ => leaves_bind fun _ _ => leaves_same _

theorem timeReadServer_leavesReaders : Server.LeavesReaders timeReadServer := fun _ _ _ =>
  leaves_sessionRequest fun _ _ _ => leaves_same _

theorem alignArmServer_leavesReaders : Server.LeavesReaders alignArmServer := fun _ _ s =>
  leaves_sessionRequest fun _ _ _ => leaves_bind fun _ _ => leaves_bind fun _ _ => leaves_ok (s.setTime_keepsReaders _)

theorem alignCancelServer_leavesReaders : Server.LeavesReaders alignCancelServer := fun _ _ s =>
  leaves_sessionRequest fun _ _ _ => leaves_bind fun _ _ => leaves_ok (s.setTime_keepsReaders _)

theorem markSetupServer_leavesReaders : Server.LeavesReaders markSetupServer := fun _ _ s =>
  leaves_sessionRequest fun _ _ _ => leaves_bind fun _ _ => leaves_bind fun _ _ => leaves_bind fun _ _ =>
    leaves_ok (s.setMark_keepsReaders _)

theorem markPulseServer_leavesReaders : Server.LeavesReaders markPulseServer := fun _ _ s =>
  leaves_sessionRequest fun _ _ _ => leaves_bind fun _ _ => leaves_ok (s.setMark_keepsReaders _)

theorem trigLineFilterServer_leavesReaders : Server.LeavesReaders trigLineFilterServer := fun _ _ s =>
  leaves_sessionRequest fun _ _ _ => leaves_bind fun l _ => leaves_bind fun _ _ => leaves_ok (s.setLine_keepsReaders l _)

theorem trigArmServer_leavesReaders : Server.LeavesReaders trigArmServer := fun _ _ s =>
  leaves_sessionRequest fun _ _ _ => leaves_bind fun c _ => leaves_bind fun _ _ => leaves_bind fun _ _ =>
    leaves_ok (s.setChannel_keepsReaders c _)

theorem trigDisarmServer_leavesReaders : Server.LeavesReaders trigDisarmServer := fun _ _ s =>
  leaves_sessionRequest fun _ _ _ => leaves_bind fun c _ => leaves_bind fun _ _ =>
    have disarmed := s.setChannel_keepsReaders c (s.channel c).disarmed
    leaves_ok (KeepsReaders.ite (disarmed.raiseToOwner _ _) disarmed)

theorem trigStatusServer_leavesReaders : Server.LeavesReaders trigStatusServer := fun _ _ _ =>
  leaves_sessionRequest fun _ _ _ => leaves_bind fun _ _ => leaves_same _

theorem logUnsubscribeServer_leavesReaders : Server.LeavesReaders logUnsubscribeServer := fun p _ s =>
  leaves_sessionRequest fun ses hs _ => leaves_bind fun _ _ => leaves_ok (by
    rw [State.setReader, hs]
    exact State.setSession_keepsReaders fun _ h => by cases h)

theorem logFetchServer_leavesReaders : Server.LeavesReaders logFetchServer := fun _ _ _ =>
  leaves_sessionRequest fun _ _ _ => leaves_bind fun _ _ => leaves_bind fun _ _ => leaves_same _

theorem logStatusServer_leavesReaders : Server.LeavesReaders logStatusServer := fun _ _ _ =>
  leaves_sessionRequest fun _ _ _ => by
    unfold logStatusBody
    dsimp only
    split <;> exact leaves_same _

theorem cmpSetupServer_leavesReaders : Server.LeavesReaders cmpSetupServer := fun _ _ s =>
  leaves_sessionRequest fun _ _ _ => leaves_bind fun e _ => leaves_bind fun _ _ => leaves_bind fun _ _ =>
    leaves_bind fun _ _ => leaves_bind fun _ _ => leaves_bind fun _ _ => leaves_bind fun _ _ =>
      leaves_ok (s.replaceEntry_only e _).keepsReaders

theorem cmpEnableServer_leavesReaders : Server.LeavesReaders cmpEnableServer := fun _ _ s =>
  leaves_sessionRequest fun _ _ _ => leaves_bind fun e _ => leaves_bind fun _ _ =>
    leaves_ok (s.replaceEntry_only e _).keepsReaders

theorem cmpDisableServer_leavesReaders : Server.LeavesReaders cmpDisableServer := fun _ _ s =>
  leaves_sessionRequest fun _ _ _ => leaves_bind fun e _ => leaves_bind fun _ _ =>
    leaves_ok (s.replaceEntry_only e _).keepsReaders

theorem cmpStatusServer_leavesReaders : Server.LeavesReaders cmpStatusServer := fun _ _ _ =>
  leaves_sessionRequest fun _ _ _ => leaves_bind fun _ _ => leaves_same _

theorem gateSetupServer_leavesReaders : Server.LeavesReaders gateSetupServer := fun _ _ s =>
  leaves_sessionRequest fun _ _ _ => leaves_bind fun g _ => leaves_bind fun _ _ => leaves_bind fun _ _ =>
    leaves_bind fun _ _ => leaves_bind fun _ _ => leaves_bind fun _ _ => leaves_ok (s.setGate_keepsReaders g _)

theorem gateSetServer_leavesReaders : Server.LeavesReaders gateSetServer := fun _ _ s =>
  leaves_sessionRequest fun _ _ _ => leaves_bind fun g _ => leaves_bind fun _ _ => leaves_bind fun _ _ =>
    leaves_ok (s.setGate_keepsReaders g _)

theorem gateStatusServer_leavesReaders : Server.LeavesReaders gateStatusServer := fun _ _ _ =>
  leaves_sessionRequest fun _ _ _ => leaves_bind fun _ _ => leaves_same _

theorem eventMaskServer_leavesReaders : Server.LeavesReaders eventMaskServer := fun _ _ _ =>
  leaves_sessionRequest fun _ hs _ => leaves_bind fun _ _ => leaves_ok (State.setSession_sameReader_keepsReaders hs rfl)

theorem eventReadServer_leavesReaders : Server.LeavesReaders eventReadServer := fun _ _ _ =>
  leaves_sessionRequest fun _ _ _ => leaves_same _

theorem eventAckServer_leavesReaders : Server.LeavesReaders eventAckServer := fun _ _ _ =>
  leaves_sessionRequest fun _ hs _ => leaves_bind fun _ _ => leaves_ok (State.setSession_sameReader_keepsReaders hs rfl)

/-! ### The requests that move the log or set a reader (R23, R27, R37, R47, R53, R86) -/

/-- A request that keeps the window in order and every reader in it. -/
def Server.KeepsWindowOk (serve : Server) : Prop :=
  ∀ p payload s, s.windowOk → Leaves State.windowOk (serve p payload s)

theorem Server.LeavesReaders.keepsWindowOk {serve : Server} (h : Server.LeavesReaders serve) : Server.KeepsWindowOk serve :=
  fun p payload s hs bytes t ht => (h p payload s bytes t ht).windowOk hs

theorem logSubscribeServer_keepsWindowOk : Server.KeepsWindowOk logSubscribeServer := fun _ _ s hw =>
  leaves_sessionRequest fun _ hs _ => leaves_bind fun mode _ => leaves_bind fun oldest _ => leaves_bind fun _ hrange =>
    leaves_ok (State.setReader_levelCheck_windowOk hs
      (Reader.inWindow_new s.log mode oldest (decide_eq_true_eq.mp (require_ok hrange))) hw)

theorem logReleaseServer_keepsWindowOk : Server.KeepsWindowOk logReleaseServer := fun p payload s hw =>
  leaves_sessionRequest fun ses hs hl => by
    have server : logReleaseBody p ses payload s = logReleaseServer p payload s :=
      (sessionRequest_of_some hs hl).symm
    rw [server]
    cases hr : ses.reader with
    | none =>
      rw [logReleaseServer_of_none hs hr hl]
      exact leaves_error _
    | some r =>
      obtain ⟨-, hreaders⟩ := id hw
      have hok : r.ok s.log := hreaders p r (by rw [State.reader_eq, hs]; exact hr)
      rw [logReleaseServer_of_some hs hr hl]
      dsimp only
      split
      · exact leaves_ok hw
      · split
        · exact leaves_error _
        · next hmoves =>
          exact leaves_ok (State.setReader_levelCheck_windowOk hs (hok.inWindow.moved (Nat.not_lt.mp hmoves)) hw)

theorem snapServer_keepsWindowOk : Server.KeepsWindowOk snapServer := fun _ _ s hw =>
  leaves_sessionRequest fun _ _ _ => leaves_bind fun _ _ => leaves_bind fun _ _ => leaves_bind fun _ _ => by
    dsimp only
    split
    · exact leaves_ok (s.capture_windowOk _ hw)
    · exact leaves_ok hw

theorem trigSetupServer_keepsWindowOk : Server.KeepsWindowOk trigSetupServer := fun _ _ s hw =>
  leaves_sessionRequest fun _ _ _ => leaves_bind fun c _ => leaves_bind fun _ _ => leaves_bind fun _ _ =>
    leaves_bind fun _ _ => leaves_ok ((State.setChannel_keepsReaders _ c _).windowOk (s.arrive_windowOk _ _ hw))

theorem trigFireServer_keepsWindowOk : Server.KeepsWindowOk trigFireServer := fun _ _ s hw =>
  leaves_sessionRequest fun _ _ _ => leaves_bind fun c _ => leaves_bind fun _ _ => leaves_bind fun _ _ =>
    leaves_ok (State.handOver_windowOk _ _ ((s.fire_keepsReaders c).windowOk hw))

/-- Once every open session is closed, none is open (R142). -/
theorem State.closeAll_session (s : State) (p : PortId) : s.closeAll.session p = none := by
  have step : ∀ (t : State) (q : PortId),
      (if (t.session q).isSome then t.closeSession q else t).session p = if p = q then none else t.session p := by
    intro t q
    split
    · exact t.closeSession_session q p
    · next hq =>
      split
      · next e => exact e ▸ Option.not_isSome_iff_eq_none.mp hq
      · rfl
  simp only [State.closeAll, allPorts, List.foldl_cons, List.foldl_nil, step]
  fin_cases p <;> rfl

/-- With no session open there is no reader. -/
theorem State.readersOk_of_no_session {s : State} (h : ∀ p, s.session p = none) : s.readersOk := by
  intro p r hr
  rw [State.reader_eq, h p] at hr
  cases hr

theorem deviceResetServer_keepsWindowOk : Server.KeepsWindowOk deviceResetServer := fun _ _ s _ =>
  leaves_sessionRequest fun _ _ _ => leaves_bind fun _ _ =>
    leaves_ok ⟨CaptureLog.ok_empty _, State.readersOk_of_no_session s.closeAll_session⟩

/-- Every request of the table keeps the window in order and every reader in it. -/
theorem requestTable_keepsWindowOk : ∀ e ∈ requestTable, Server.KeepsWindowOk e.2 := by
  simp only [requestTable, List.forall_mem_cons]
  exact ⟨openServer_leavesReaders.keepsWindowOk, closeServer_leavesReaders.keepsWindowOk,
    pingServer_leavesReaders.keepsWindowOk, deviceInfoServer_leavesReaders.keepsWindowOk, deviceResetServer_keepsWindowOk,
    claimServer_leavesReaders.keepsWindowOk, releaseServer_leavesReaders.keepsWindowOk,
    whoOwnsServer_leavesReaders.keepsWindowOk, axisSetupServer_leavesReaders.keepsWindowOk,
    axisSpanServer_leavesReaders.keepsWindowOk, axisPresetServer_leavesReaders.keepsWindowOk,
    axisClearFaultServer_leavesReaders.keepsWindowOk, axisReadServer_leavesReaders.keepsWindowOk, snapServer_keepsWindowOk,
    timeReadServer_leavesReaders.keepsWindowOk, alignArmServer_leavesReaders.keepsWindowOk,
    alignCancelServer_leavesReaders.keepsWindowOk, markSetupServer_leavesReaders.keepsWindowOk,
    markPulseServer_leavesReaders.keepsWindowOk, trigSetupServer_keepsWindowOk,
    trigLineFilterServer_leavesReaders.keepsWindowOk, trigArmServer_leavesReaders.keepsWindowOk,
    trigDisarmServer_leavesReaders.keepsWindowOk, trigFireServer_keepsWindowOk, trigStatusServer_leavesReaders.keepsWindowOk,
    logSubscribeServer_keepsWindowOk, logUnsubscribeServer_leavesReaders.keepsWindowOk,
    logFetchServer_leavesReaders.keepsWindowOk, logReleaseServer_keepsWindowOk, logStatusServer_leavesReaders.keepsWindowOk,
    cmpSetupServer_leavesReaders.keepsWindowOk, cmpEnableServer_leavesReaders.keepsWindowOk,
    cmpDisableServer_leavesReaders.keepsWindowOk, cmpStatusServer_leavesReaders.keepsWindowOk,
    gateSetupServer_leavesReaders.keepsWindowOk, gateSetServer_leavesReaders.keepsWindowOk,
    gateStatusServer_leavesReaders.keepsWindowOk, eventMaskServer_leavesReaders.keepsWindowOk,
    eventReadServer_leavesReaders.keepsWindowOk, eventAckServer_leavesReaders.keepsWindowOk, List.forall_mem_nil _⟩

theorem State.discardAll_keepsReaders (s : State) (p : PortId) : KeepsReaders s (s.discardAll p) :=
  KeepsReaders.foldl _ (fun t q => t.discardQueues_keepsReaders q _) allPorts s

theorem State.takeNextRequest_windowOk (s : State) (h : s.windowOk) : s.takeNextRequest.windowOk :=
  State.takeNextRequest_preserves (P := State.windowOk)
    (fun _ _ => KeepsReaders.windowOk (.of_sessions rfl rfl)) (fun _ _ _ => KeepsReaders.windowOk (.of_sessions rfl rfl))
    (fun t => t.arrive_windowOk _ _) (fun t p => (t.discardAll_keepsReaders p).windowOk)
    requestTable_keepsWindowOk s h

/-! ### The tick and the step -/

theorem State.sampleAxesLeft_keepsReaders (s : State) : KeepsReaders s s.sampleAxesLeft := by
  rw [s.sampleAxesLeft_eq]
  refine KeepsReaders.foldl _ (fun t n => ?_) allAxes s
  exact KeepsReaders.trans _ _ _ (KeepsReaders.ite (KeepsReaders.refl t) (t.sampleAB_keepsReaders n [] []))
    (KeepsReaders.ite (KeepsReaders.refl _) (State.sampleZ_keepsReaders _ n []))

theorem State.sampleLinesLeft_keepsReaders (s : State) : KeepsReaders s s.sampleLinesLeft :=
  KeepsReaders.foldl _ (fun t l => KeepsReaders.ite (KeepsReaders.refl t) (t.sampleTrigLine_keepsReaders l [])) allLines s

/-- The parts of the end of a tick on the field side, but for the arrivals at the log (log entry 2). -/
theorem State.fieldSide_keepsReaders (s : State) :
    KeepsReaders s s.takeMarkPulseEnd.sampleAxesLeft.sampleLinesLeft.burstStepsLeft.gatePulseEndsLeft := by
  have axes := KeepsReaders.trans _ _ _ s.takeMarkPulseEnd_keepsReaders (State.sampleAxesLeft_keepsReaders _)
  have lines := KeepsReaders.trans _ _ _ axes (State.sampleLinesLeft_keepsReaders _)
  have bursts := KeepsReaders.trans _ _ _ lines
    (KeepsReaders.foldl _ State.takeBurstStep_keepsReaders allChannels _)
  exact KeepsReaders.trans _ _ _ bursts (State.gatePulseEndsLeft_only _).keepsReaders

theorem State.endPorts_windowOk (s : State) (h : s.windowOk) : s.endPorts.windowOk := by
  have expired := (KeepsReaders.foldl _ State.takeExpiry_keepsReaders allPorts s).windowOk h
  have taken := State.takeNextRequest_windowOk _ expired
  have last := (KeepsReaders.foldl _ State.expireLast_keepsReaders allPorts _).windowOk taken
  exact State.takeNextRequest_windowOk _ last

theorem State.finishTick_windowOk (s : State) (h : s.windowOk) : s.finishTick.windowOk := by
  have field : s.endFieldSide.windowOk := State.arrive_windowOk _ _ _ (s.fieldSide_keepsReaders.windowOk h)
  have sampled : KeepsReaders s.endFieldSide.endPorts s.endFieldSide.endPorts.sampleMarkLeft :=
    KeepsReaders.ite (State.sampleMark_keepsReaders _ []) (KeepsReaders.refl _)
  rw [s.finishTick_eq]
  exact State.arrive_windowOk _ _ _ (sampled.windowOk (State.endPorts_windowOk _ field))

/-- At the beginning of a tick the idle timers count, and the readers stand (R135). -/
theorem State.beginTick_keepsReaders (s : State) : KeepsReaders s s.beginTick := by
  refine ⟨s.beginTick_log, fun p r hr => ?_⟩
  rw [State.reader_eq, s.beginTick_session] at hr
  rw [State.reader_eq]
  cases hs : s.session p with
  | none => rw [hs] at hr; cases hr
  | some ses =>
    have same : ses.tick.reader = ses.reader := by unfold Session.tick; split <;> rfl
    rw [hs] at hr
    exact same.symm.trans hr

/-- A happening whose part keeps the readers, and which then brings captures to the log. -/
theorem KeepsReaders.reachLog_windowOk {s t : State} (h : KeepsReaders s t) (hs : s.windowOk) (order : LogOrder) :
    (t.reachLog order).windowOk := t.arrive_windowOk _ _ (h.windowOk hs)

/-- A happening that is no request keeps the window in order and every reader in it. -/
theorem exec_windowOk_of_happening {c : Instr} {s t : State} (hc : requestOf c = none) (h : s.windowOk)
    (ht : exec c s = .next t) : t.windowOk := by
  cases c with
  | pinReset =>
    cases ht
    exact ⟨CaptureLog.ok_empty 0, State.readersOk_of_no_session fun p => State.reset_session p⟩
  | portUnblock p => cases ht; exact (s.unblock_keepsReaders p).windowOk h
  | transactionBegin p => cases ht; exact (s.beginTransaction_keepsReaders p).windowOk h
  | statusByteShifted p received => cases ht; exact (s.showStatus_keepsReaders p received).windowOk h
  | responseDelivered p received => cases ht; exact (s.deliverResponse_keepsReaders p received).windowOk h
  | transactionEnd p received => cases ht; exact (s.endTransaction_keepsReaders p received).windowOk h
  | sessionExpiry p => cases ht; exact (s.takeExpiry_keepsReaders p).windowOk h
  | axisLevelChange n input => cases ht; exact (s.showAxis_keepsReaders n input).reachLog_windowOk h _
  | gatePulseEnd g => cases ht; exact (s.takeGatePulseEnd_only g).keepsReaders.windowOk h
  | trigLevelChange l raw channels => cases ht; exact (s.showTrigLine_keepsReaders l raw _).reachLog_windowOk h _
  | burstStep step => cases ht; exact (s.takeBurstStep_keepsReaders step.channel).reachLog_windowOk h _
  | markPulseEnd => cases ht; exact s.takeMarkPulseEnd_keepsReaders.windowOk h
  | recognisedEdge events log => cases ht; exact (s.takeRecognisedEdge_keepsReaders events).reachLog_windowOk h _
  | recognizerRearm => cases ht; exact s.takeRearm_keepsReaders.windowOk h
  | markLineChange outside => cases ht; exact (s.setMark_keepsReaders _).windowOk h
  | tickCountAdvance =>
    have he : s.finishTick.beginTick = t := Host.Outcome.next.inj ht
    rw [← he]
    exact s.finishTick.beginTick_keepsReaders.windowOk (s.finishTick_windowOk h)
  | _ => cases hc

theorem exec_windowOk {c : Instr} {s t : State} (h : s.windowOk) (ht : exec c s = .next t) : t.windowOk := by
  cases hc : requestOf c with
  | none => exact exec_windowOk_of_happening hc h ht
  | some request =>
    rcases exec_request_cases hc s with he | he <;> rw [he] at ht <;> cases ht
    · exact h
    · exact s.takeNextRequest_windowOk h

/-- Settles O6: a capture at the log, LOG_SUBSCRIBE and LOG_RELEASE check the levels of the readers they move; the resets leave no
reader; and every other part of a step leaves the log as it is and brings no new reader. -/
theorem stepKeepsReadersInTheWindow : Obligations.StepKeepsReadersInTheWindow := by
  intro s t hlog hreaders ht
  unfold step at ht
  split at ht
  · cases ht
    exact hreaders
  · next c rest _ =>
    obtain ⟨-, hstep⟩ := exec_windowOk (s := { s with pending := rest }) ⟨hlog, hreaders⟩ ht
    exact hstep

end Sys2Proof.Machine

/-! ## LOG_SUBSCRIBE and LOG_UNSUBSCRIBE (O52) -/

namespace Sys2Proof.Machine

/-- A reader mode is 0 or 1, and every other byte is refused (R27, R178). -/
theorem readerModeField_eq (payload : List Byte) (off : Nat) :
    codeField readerMode? payload off =
      if 1 < (byteAt payload off).toNat then .error .badValue
      else .ok (if byteAt payload off = 0 then .keep else .lossy) := by
  unfold codeField readerMode?
  generalize byteAt payload off = b
  by_cases h0 : b = 0
  · subst h0; rfl
  · by_cases h1 : b = 1
    · subst h1; rfl
    · have hb : 1 < b.toNat := by bv_omega
      rw [if_neg h0, if_neg h1, if_pos hb]

/-- LOG_SUBSCRIBE on a port with a session: its checks, then the reader set anew and checked (R27, R28, R31). -/
theorem logSubscribeServer_eq {s : State} {p : PortId} {ses : Session} (hs : s.session p = some ses)
    (mode start w1 w0 : Byte) :
    logSubscribeServer p [mode, start, w1, w0] s =
      let watermark := w1.toNat * 256 + w0.toNat
      let cursor := if start = 0 then s.log.head else s.log.tail
      if 1 < mode.toNat ∨ 1 < start.toNat then .error .badValue
      else if watermark = 0 ∨ 256 < watermark then .error .outOfRange
      else
        .ok (bytesOfNat 4 cursor.toNat ++ bytesOfNat 4 s.log.head.toNat ++ bytesOfNat 4 s.log.tail.toNat,
          (s.setReader p (some { mode := if mode = 0 then .keep else .lossy, cursor := cursor, watermark := watermark,
                                 level := false, lost := 0 })).levelCheck p) := by
  have hstart : codeField startOldest? [mode, start, w1, w0] 1 = flagField [mode, start, w1, w0] 1 := rfl
  have hwatermark : watermarkAt [mode, start, w1, w0] = w1.toNat * 256 + w0.toNat := by
    simp [watermarkAt, natAt, natOfBytes]
  rw [logSubscribeServer, sessionRequest_of_some (len := 4) (payload := [mode, start, w1, w0]) hs rfl, logSubscribeBody,
    hstart, readerModeField_eq, ite_error_bind, ok_bind, flagField_eq, ite_error_bind, ok_bind, hwatermark, require_bind]
  change (if 1 < mode.toNat then _ else if 1 < start.toNat then _ else _) = _
  dsimp only
  generalize w1.toNat * 256 + w0.toNat = watermark
  have hrange : ¬(1 ≤ watermark ∧ watermark ≤ Config.logCapacity) ↔ watermark = 0 ∨ 256 < watermark := by
    unfold Config.logCapacity
    omega
  by_cases h1 : 1 < mode.toNat
  · simp only [h1, true_or, if_true]
  by_cases h2 : 1 < start.toNat
  · simp only [h1, h2, or_true, if_false, if_true]
  simp only [h1, h2, or_self, if_false, hrange]
  by_cases h0 : start = 0
  · subst h0; rfl
  · have hone : start = 1 := by bv_omega
    subst hone; rfl

/-- The level check of a new reader: its flag is set, with LOG_LEVEL filed, when the unread count reaches the watermark (R31, R32). -/
theorem Session.levelChecked_of_new {ses : Session} {r : Reader} (hl : r.level = false) (head : Seq) :
    Session.levelChecked head { ses with reader := some r } =
      { ses with
        reader := some (r.leveled head)
        records := if decide (r.watermark ≤ distance head r.cursor) then ses.records.file .logLevel else ses.records } := by
  unfold Session.levelChecked Reader.leveled
  dsimp only
  rcases Nat.lt_or_ge (distance head r.cursor) r.watermark with hw | hw
  · simp [hw]
  · simp [hw, Nat.not_lt.mpr hw, hl]

/-- LOG_UNSUBSCRIBE on a port with a session (R29, R42). -/
theorem logUnsubscribeServer_eq {s : State} {p : PortId} {ses : Session} (hs : s.session p = some ses) :
    logUnsubscribeServer p [] s =
      match ses.reader with
      | none => .error .notSubscribed
      | some r => .ok (bytesOfNat 4 r.cursor.toNat ++ bytesOfNat 2 r.lost, s.setReader p none) := by
  rw [logUnsubscribeServer, sessionRequest_of_some (len := 0) (payload := []) hs rfl, logUnsubscribeBody, requireReader]
  cases ses.reader <;> rfl

/-- What LOG_SUBSCRIBE and LOG_UNSUBSCRIBE share: the answer of an accepted request that gives the port's session `new` and leaves
the rest. -/
theorem answered_newSession {s t : State} {p : PortId} {code tag : Byte} {payload bytes : List Byte} {serve : Server}
    {new : Session} (hn : s.nextRequest = some (p, { command := code, tag := tag, payload := payload }))
    (hc : code ≠ codeTimeRead) (server : serve p payload (s.taken p) = .ok (bytes, t)) (only : OnlySessions (s.taken p) t)
    (session : ∀ q, t.session q = if q = p then some new else s.session q) :
    let u := executorTakes p { command := code, tag := tag, payload := payload } serve s
    s.answered p { command := code, tag := tag, result := .ok, payload := bytes } u ∧ u.session p = some new ∧
      (∀ q, q ≠ p → u.session q = s.session q) ∧
      u = { s with sessions := u.sessions, ports := u.ports, executor := u.executor } := by
  refine ⟨answered_of_ok hn hc server (by rw [only]) (by rw [only]), ?_, fun q hq => ?_, ?_⟩ <;>
    rw [executorTakes_of_ok hn server]
  · rw [State.deposit_session, session, if_pos rfl]
  · rw [State.deposit_session, session, if_neg hq]
  · rw [State.deposit_eq, only]
    rfl

/-- Settles O52: the checks of LOG_SUBSCRIBE one by one, then the reader set and checked; and the reader taken away. -/
theorem logSubscribeAndUnsubscribeSetTheReader : Obligations.LogSubscribeAndUnsubscribeSetTheReader := by
  intro s p tag ses hs
  have hs' : (s.taken p).session p = some ses := hs
  refine ⟨fun mode start w1 w0 hn => ⟨_, rfl, ?_⟩, fun hn => ⟨_, rfl, ?_⟩⟩
  · refine refused_ite hn (logSubscribeServer_eq hs' mode start w1 w0) fun _ server => ?_
    refine refused_ite hn server fun _ server => ?_
    refine answered_newSession hn (by decide) server (State.setReader_levelCheck_only _ p _) fun q => ?_
    rw [State.setReader_levelCheck_session hs', Session.levelChecked_of_new rfl]
    rfl
  · have server := logUnsubscribeServer_eq hs'
    cases hr : ses.reader with
    | none =>
      rw [hr] at server
      exact refused_of_error hn server
    | some r =>
      rw [hr] at server
      refine answered_newSession hn (by decide) server (State.setReader_only _ p _) fun q => ?_
      rw [State.setReader_session, State.taken_session]
      split
      · next hq => rw [hq, hs]; rfl
      · rfl

end Sys2Proof.Machine

/-! ## LOG_FETCH (O53) -/

namespace Sys2Proof.Machine

/-! ### The run that fits (R34, R35) -/

theorem fitting_prefix (space : Nat) (l : List Record) : fitting space l <+: l := by
  induction l generalizing space with
  | nil => exact List.nil_prefix
  | cons r rest ih =>
    unfold fitting
    split
    · exact List.cons_prefix_cons.mpr ⟨rfl, ih _⟩
    · exact List.nil_prefix

theorem fitting_size_le (space : Nat) (l : List Record) : ((fitting space l).map Record.size).sum ≤ space := by
  induction l generalizing space with
  | nil => exact Nat.zero_le _
  | cons r rest ih =>
    unfold fitting
    split
    · next hfits =>
      have hrest := ih (space - r.size)
      rw [List.map_cons, List.sum_cons]
      omega
    · exact Nat.zero_le _

/-- The run goes on until the list ends or the next record does not fit (R34). -/
theorem fitting_longest (space : Nat) (l : List Record) :
    fitting space l = l ∨
      ∃ next, fitting space l ++ [next] <+: l ∧ space < ((fitting space l).map Record.size).sum + next.size := by
  induction l generalizing space with
  | nil => exact .inl rfl
  | cons r rest ih =>
    unfold fitting
    split
    · next hfits =>
      refine (ih (space - r.size)).imp (congrArg (r :: ·)) ?_
      rintro ⟨next, hprefix, hover⟩
      refine ⟨next, List.cons_prefix_cons.mpr ⟨rfl, hprefix⟩, ?_⟩
      rw [List.map_cons, List.sum_cons]
      omega
    · next hover =>
      exact .inr ⟨r, List.cons_prefix_cons.mpr ⟨rfl, List.nil_prefix⟩, by simpa using hover⟩

/-! ### The numbers of a run (R5, R7) -/

theorem seq_of_consecutive {seq : Seq} {l : List Record} (h : consecutive seq l) {k : Nat} {x : Record} (hx : l[k]? = some x) :
    x.seq = seq + BitVec.ofNat 32 k := by
  induction l generalizing seq k with
  | nil => cases hx
  | cons r rest ih =>
    obtain ⟨hr, hrest⟩ := h
    cases k with
    | zero =>
      cases hx
      rw [hr]
      exact (BitVec.add_zero _).symm
    | succ k =>
      rw [ih hrest hx]
      bv_omega

/-- In a window in order, the record `n` places after a cursor has the cursor's number plus `n` (R6, R7). -/
theorem CaptureLog.seq_from_cursor {l : CaptureLog} (h : l.ok) (cursor : Seq) {n : Nat} {x : Record}
    (hx : l.records[distance cursor l.tail + n]? = some x) : x.seq = cursor + BitVec.ofNat 32 n := by
  obtain ⟨-, -, hseq, -⟩ := h
  rw [seq_of_consecutive hseq hx, BitVec.ofNat_add, ← BitVec.add_assoc, add_distance]

/-! ### The bytes of a record (R4, R181) -/

theorem ValueEntry.sizes_eq (values : List ValueEntry) :
    (values.map ValueEntry.size).sum = 6 * values.length + 2 * (values.filter (fun v => v.turns.isSome)).length := by
  induction values with
  | nil => rfl
  | cons v rest ih =>
    rw [List.map_cons, List.sum_cons, ih, ValueEntry.size, List.length_cons]
    cases hv : v.turns <;> simp [hv] <;> omega

theorem ValueEntry.length_wideBytes (v : ValueEntry) (clip : Bool) : (v.wideBytes clip).length = v.size := by
  unfold ValueEntry.wideBytes ValueEntry.size bytesOfCount
  cases v.turns <;> simp [turnsBytes]

theorem Record.size_eq (x : Record) :
    x.size = 14 + 6 * x.values.length + 2 * (x.values.filter (fun v => v.turns.isSome)).length := by
  rw [Record.size, ValueEntry.sizes_eq, Nat.add_assoc]

/-- A record is as long on the wire as R4 says. -/
theorem Record.length_bytes (x : Record) : x.bytes.length = x.size := by
  have entries : (fun v : ValueEntry => (v.wideBytes false).length) = ValueEntry.size :=
    funext fun v => v.length_wideBytes false
  simp only [Record.bytes, Record.size, List.length_append, List.length_flatMap, entries, length_bytesOfNat, List.length_cons,
    List.length_nil]

/-- The cause byte and the burst byte of a record (R181). -/
def causeBytes : Cause → List Byte
  | .trigger c k => [byteOfNat c.val, byteOfNat k]
  | .mark => [64, 0]
  | .host q => [byteOfNat (128 + q.val), 0]

theorem causeBytes_eq (c : Cause) : causeBytes c = [causeByte c, burstByte c] := by cases c <;> rfl

theorem ValueEntry.wideBytes_eq (v : ValueEntry) :
    v.wideBytes false =
      [byteOfNat (v.axis.val + (if v.turns = none then 0 else 64) + (if v.faulted then 128 else 0))] ++
        bytesOfCount v.count ++ ((v.turns.map (fun k => bytesOfNat 2 k.toNat)).getD []) := by
  rw [ValueEntry.wideBytes, ValueEntry.entryByte_eq, turnsBytes_eq]
  rfl

theorem Record.bytes_eq (x : Record) :
    x.bytes =
      bytesOfNat 4 x.seq.toNat ++ [x.stamp.epoch] ++ bytesOfNat 6 x.stamp.tick.toNat ++ causeBytes x.cause ++
        [byteOfNat x.values.length] ++
        x.values.flatMap (fun v =>
          [byteOfNat (v.axis.val + (if v.turns = none then 0 else 64) + (if v.faulted then 128 else 0))] ++
            bytesOfCount v.count ++ ((v.turns.map (fun k => bytesOfNat 2 k.toNat)).getD [])) := by
  rw [Record.bytes, funext ValueEntry.wideBytes_eq, causeBytes_eq, List.append_assoc (bs := [_, _])]
  rfl

/-! ### The request -/

/-- LOG_FETCH on a port with a session: its checks, then the report of the run (R34 to R36). -/
theorem logFetchServer_eq {s : State} {p : PortId} {ses : Session} (hs : s.session p = some ses) (skip max : Byte) :
    logFetchServer p [skip, max] s =
      if max = 0 ∨ 4 < max.toNat then .error .outOfRange
      else
        match ses.reader with
        | none => .error .notSubscribed
        | some r =>
          let run := s.log.fetch r skip.toNat max.toNat
          .ok (bytesOfNat 4 r.cursor.toNat ++ bytesOfNat 4 s.log.head.toNat ++ bytesOfNat 2 r.lost ++
            [if r.level then 1 else 0, byteOfNat run.length] ++ run.flatMap Record.bytes, s) := by
  have hskip : natAt [skip, max] 0 1 = skip.toNat := natAt_one _ _ _ rfl
  have hmax : natAt [skip, max] 1 1 = max.toNat := natAt_one _ _ _ rfl
  have hrange : ¬(1 ≤ max.toNat ∧ max.toNat ≤ 4) ↔ max = 0 ∨ 4 < max.toNat := by bv_omega
  rw [logFetchServer, sessionRequest_of_some (len := 2) (payload := [skip, max]) hs rfl, logFetchBody, hskip, hmax,
    require_bind, requireReader]
  simp only [hrange]
  cases ses.reader <;> rfl

/-- The run that LOG_FETCH selects is the longest that keeps to its three bounds (R34). -/
theorem CaptureLog.fetch_longest (l : CaptureLog) (r : Reader) (skip max : Nat) :
    let unread := l.records.drop (distance r.cursor l.tail + skip)
    let run := l.fetch r skip max
    run <+: unread ∧ run.length ≤ max ∧ (run.map Record.size).sum ≤ 236 ∧
      (run = unread ∨ run.length = max ∨
        ∃ next, run ++ [next] <+: unread ∧ 236 < (run.map Record.size).sum + next.size) := by
  intro unread run
  have hrun : run <+: unread.take max := fitting_prefix 236 _
  have htake : unread.take max <+: unread := List.take_prefix max unread
  refine ⟨hrun.trans htake, hrun.length_le.trans (List.length_take_le max unread), fitting_size_le 236 _, ?_⟩
  rcases fitting_longest 236 (unread.take max) with hall | ⟨next, hprefix, hover⟩
  · have hall : run = unread.take max := hall
    rw [hall]
    rcases Nat.le_total max unread.length with hlong | hshort
    · exact .inr (.inl (List.length_take_of_le hlong))
    · exact .inl (List.take_of_length_le hshort)
  · exact .inr (.inr ⟨next, hprefix.trans htake, hover⟩)

/-- Settles O53: the checks, then the report of the longest run. -/
theorem logFetchReturnsTheLongestFittingRun : Obligations.LogFetchReturnsTheLongestFittingRun := by
  intro s p tag skip max ses hn hs
  refine ⟨_, rfl, ?_⟩
  refine refused_ite hn (logFetchServer_eq (s := s.taken p) hs skip max) fun _ server => ?_
  cases hr : ses.reader with
  | none =>
    rw [hr] at server
    exact refused_of_error hn server
  | some r =>
    rw [hr] at server
    dsimp -zeta only
    intro size layout unread
    have hsize : size = Record.size := funext fun x => x.size_eq.symm
    have hlayout : layout = Record.bytes := funext fun x => x.bytes_eq.symm
    obtain ⟨hprefix, hlength, hfits, hlongest⟩ := s.log.fetch_longest r skip.toNat max.toNat
    rw [hsize, hlayout]
    refine ⟨s.log.fetch r skip.toNat max.toNat, hprefix, hlength, hfits, hlongest, fun hlog k x hx => ?_,
      onlyAnswered_of_ok hn (by decide) server, fun x _ => x.length_bytes⟩
    refine CaptureLog.seq_from_cursor hlog r.cursor ?_
    rw [← Nat.add_assoc, ← List.getElem?_drop]
    obtain ⟨hk, rfl⟩ := List.getElem?_eq_some_iff.mp hx
    exact List.getElem?_eq_some_iff.mpr ⟨hk.trans_le hprefix.length_le, (hprefix.getElem hk).symm⟩

end Sys2Proof.Machine

/-! ## What a channel may do without an owner (R43, R47 to R49, R52, R54, R68) -/

namespace Sys2Proof.Machine

/-! ### The moves of one channel -/

/-- From `x` to `y` channel `c` has gone on as it may without an owner: it is still as R43, R49 and R54 state, and has not left
DISARMED. -/
structure Channel.Kept (c : ChannelId) (x y : Channel) : Prop where
  ok : x.ok c → y.ok c
  disarmed : x.state = .disarmed → y.state = .disarmed

theorem Channel.Kept.refl (c : ChannelId) (x : Channel) : Channel.Kept c x x := ⟨id, id⟩

/-- With one of them fired, the prerequisites to come are still among the configured ones (R49). -/
theorem withoutMember_subset {a b : ChannelSet} (h : a &&& ~~~b = 0) (i : Nat) : withoutMember a i &&& ~~~b = 0 := by
  rw [withoutMember, BitVec.and_assoc, BitVec.and_comm (~~~_), ← BitVec.and_assoc, h]
  exact BitVec.zero_and

/-- A channel waits exactly while prerequisites are to come (R48, R49). -/
theorem waiting_iff (left : ChannelSet) :
    left ≠ 0 ↔ (if left = 0 then ChannelState.armed else .waiting) = .waiting := by
  by_cases h : left = 0
  · rw [if_pos h]
    exact iff_of_false (not_not.mpr h) (by decide)
  · rw [if_neg h]
    exact iff_of_true h rfl

theorem armed_or_waiting_ne_bursting (left : ChannelSet) :
    (if left = 0 then ChannelState.armed else .waiting) ≠ .bursting := by
  split <;> decide

/-- A fired notice takes one prerequisite away, and arms the channel at the last (R49). -/
theorem Channel.notice_kept (c d : ChannelId) (x : Channel) : Channel.Kept c x (x.notice d) := by
  unfold Channel.notice
  split
  · next hw =>
    obtain ⟨hwaiting, -⟩ := hw
    refine ⟨fun ⟨hconfig, _, hsub, _, hrun, hignored, hdropped⟩ => ?_, fun hd => ?_⟩
    · exact ⟨hconfig, waiting_iff _, withoutMember_subset hsub d, fun hb => absurd hb (armed_or_waiting_ne_bursting _),
        fun _ => hrun (by simp [hwaiting]), hignored, hdropped⟩
    · rw [hwaiting] at hd; cases hd
  · exact .refl c x

/-- A channel that counts an ignored event or a drop counts up to the limit (R43). -/
theorem Channel.ignored_kept (c : ChannelId) (x : Channel) :
    Channel.Kept c x { x with ignored := saturate Config.counterLimit x.ignored } :=
  ⟨fun ⟨hconfig, hwait, hsub, hburst, hrun, hignored, hdropped⟩ =>
    ⟨hconfig, hwait, hsub, hburst, hrun, saturate_le hignored, hdropped⟩, id⟩

theorem Channel.dropped_kept (c : ChannelId) (x : Channel) :
    Channel.Kept c x { x with dropped := saturate Config.counterLimit x.dropped } :=
  ⟨fun ⟨hconfig, hwait, hsub, hburst, hrun, hignored, hdropped⟩ =>
    ⟨hconfig, hwait, hsub, hburst, hrun, hignored, saturate_le hdropped⟩, id⟩

theorem ArmMode.rest_ne_waiting (m : ArmMode) : m.rest ≠ .waiting := by cases m <;> decide

/-- Outside WAITING no prerequisite is to come (R49). -/
theorem Channel.ok.outstanding_eq_zero {c : ChannelId} {x : Channel} (h : x.ok c) (hs : x.state ≠ .waiting) :
    x.outstanding = 0 := by
  obtain ⟨-, hwait, -⟩ := h
  exact not_not.mp (mt hwait.mp hs)

/-- A firing begins a burst, or leaves the channel at rest (R52). -/
theorem Channel.afterFiring_kept (c : ChannelId) {x : Channel} (h : x.state = .armed) : Channel.Kept c x x.afterFiring := by
  refine ⟨fun hok => ?_, fun hd => by rw [h] at hd; cases hd⟩
  have hzero := hok.outstanding_eq_zero (by simp [h])
  obtain ⟨hconfig, -, hsub, -, hrun, hignored, hdropped⟩ := hok
  obtain ⟨-, hmax, hinterval, -, -⟩ := id hconfig
  unfold Channel.afterFiring
  dsimp only
  split
  · exact ⟨hconfig, by simp [hzero], hsub,
      fun _ => ⟨by dsimp only; omega, by dsimp only; omega, by dsimp only; omega, hinterval, le_refl _⟩,
      fun hb => absurd rfl hb, hignored, hdropped⟩
  · exact ⟨hconfig, by simp [hzero, ArmMode.rest_ne_waiting], hsub, fun hb => absurd hb x.config.mode.rest_ne_bursting,
      fun _ => hrun (by simp [h]), hignored, hdropped⟩

/-- A burst step counts down, and at the last the channel is at rest (R54). -/
theorem Channel.afterStep_kept (c : ChannelId) {x : Channel} (h : x.state = .bursting) : Channel.Kept c x x.afterStep := by
  refine ⟨fun hok => ?_, fun hd => by rw [h] at hd; cases hd⟩
  have hzero := hok.outstanding_eq_zero (by simp [h])
  obtain ⟨hconfig, hwait, hsub, hburst, -, hignored, hdropped⟩ := hok
  obtain ⟨-, hmax, hsum, -, -⟩ := hburst h
  obtain ⟨-, -, hinterval, -, -⟩ := id hconfig
  unfold Channel.afterStep
  split
  · exact ⟨hconfig, hwait, hsub,
      fun _ => ⟨by dsimp only; omega, by dsimp only; omega, by dsimp only; omega, hinterval, le_refl _⟩,
      fun hb => absurd h hb, hignored, hdropped⟩
  · exact ⟨hconfig, by simp [hzero, ArmMode.rest_ne_waiting], hsub, fun hb => absurd hb x.config.mode.rest_ne_bursting,
      fun _ => ⟨rfl, rfl, rfl, rfl⟩, hignored, hdropped⟩

/-- The countdown of a burst counts to 1, and then owes its step (R54). -/
theorem Channel.tick_kept (c : ChannelId) (x : Channel) : Channel.Kept c x x.tick := by
  unfold Channel.tick
  split
  · next h =>
    refine ⟨fun ⟨hconfig, hwait, hsub, hburst, hrun, hignored, hdropped⟩ => ?_, fun hd => by rw [h] at hd; cases hd⟩
    obtain ⟨hmin, hmax, hsum, hpos, hle⟩ := hburst h
    split
    · exact ⟨hconfig, hwait, hsub, fun _ => ⟨hmin, hmax, hsum, by dsimp only; omega, by dsimp only; omega⟩,
        fun hb => absurd h hb, hignored, hdropped⟩
    · exact ⟨hconfig, hwait, hsub, fun _ => ⟨hmin, hmax, hsum, hpos, hle⟩, fun hb => absurd h hb, hignored, hdropped⟩
  · exact .refl c x

/-- A channel taken to DISARMED has nothing to come (R56, R68). -/
theorem Channel.disarmed_kept (c : ChannelId) (x : Channel) : Channel.Kept c x x.disarmed :=
  ⟨fun ⟨hconfig, _, _, _, _, hignored, hdropped⟩ =>
    ⟨hconfig, by simp [Channel.disarmed], BitVec.zero_and, nofun, fun _ => ⟨rfl, rfl, rfl, rfl⟩, hignored, hdropped⟩,
    fun _ => rfl⟩

/-- A channel armed waits for its configured prerequisites, if it has any (R48). -/
theorem Channel.arm_ok {c : ChannelId} {x : Channel} (h : x.ok c) : x.arm.ok c := by
  obtain ⟨hconfig, -, -, -, -, hignored, hdropped⟩ := h
  exact ⟨hconfig, waiting_iff _, BitVec.and_not_self .., fun hb => absurd hb (armed_or_waiting_ne_bursting _),
    fun _ => ⟨rfl, rfl, rfl, rfl⟩, hignored, hdropped⟩

/-- A channel that is at rest takes a configuration in range (R47). -/
theorem Channel.setup_kept {c : ChannelId} {x : Channel} {config : ChannelConfig} (hc : config.ok c)
    (h : x.state = .disarmed ∨ x.state = .spent) :
    Channel.Kept c x { x with config := config, fires := 0, ignored := 0, dropped := 0 } := by
  have hwaiting : x.state ≠ .waiting := by rcases h with h | h <;> simp [h]
  have hbursting : x.state ≠ .bursting := by rcases h with h | h <;> simp [h]
  refine ⟨fun hok => ?_, id⟩
  have hzero := hok.outstanding_eq_zero hwaiting
  obtain ⟨-, hwait, -, -, hrun, -, -⟩ := hok
  exact ⟨hc, hwait, by dsimp only; rw [hzero]; exact BitVec.zero_and, fun hb => absurd hb hbursting, hrun, Nat.zero_le _,
    Nat.zero_le _⟩

/-- What a field or a check gives, once a request has gone on beyond it. -/
theorem bind_eq_ok {α β : Type} {x : Checked α} {k : α → Checked β} {v : β} (h : (x >>= k) = .ok v) :
    ∃ a, x = .ok a ∧ k a = .ok v := by
  cases x with
  | error code => cases h
  | ok a => exact ⟨a, rfl, h⟩

/-- A field of two bytes is at most 65 535 (R177). -/
theorem natAt_two_le (payload : List Byte) (off : Nat) : natAt payload off 2 ≤ 65535 := by
  have hlt := natOfBytes_lt ((payload.drop off).take 2)
  have hlen : ((payload.drop off).take 2).length ≤ 2 := List.length_take_le _ _
  have hpow := Nat.pow_le_pow_right (show 0 < 256 by omega) hlen
  unfold natAt
  omega

/-- The configuration that TRIG_SETUP has checked is in range (R47). -/
theorem channelConfigFields_ok {payload : List Byte} {c : ChannelId} {config : ChannelConfig}
    (h : channelConfigFields payload c = .ok config) : config.ok c := by
  obtain ⟨source, -, h⟩ := bind_eq_ok h
  obtain ⟨edge, -, h⟩ := bind_eq_ok h
  obtain ⟨axes, -, h⟩ := bind_eq_ok h
  obtain ⟨mode, -, h⟩ := bind_eq_ok h
  obtain ⟨_, hburst, h⟩ := bind_eq_ok h
  obtain ⟨_, hinterval, h⟩ := bind_eq_ok h
  obtain ⟨prereqs, -, h⟩ := bind_eq_ok h
  obtain ⟨_, hself, h⟩ := bind_eq_ok h
  obtain ⟨notify, -, h⟩ := bind_eq_ok h
  cases h
  obtain ⟨hmin, hmax⟩ := decide_eq_true_eq.mp (require_ok hburst)
  exact ⟨hmin, hmax, decide_eq_true_eq.mp (require_ok hinterval), natAt_two_le payload 7,
    by simpa using require_ok hself⟩

end Sys2Proof.Machine

/-! ## What a happening may do to a resource (O7, O15) -/

namespace Sys2Proof.Machine

/-! ### Parked resources (R68, R90, R113, R114, R130) -/

/-- A resource is as its park leaves it. -/
def State.isParked (s : State) : Resource → Prop
  | .axis _ => True
  | .channel c => (s.channel c).state = .disarmed
  | .entry e => (s.entry e).enabled = false
  | .gate g => (s.gate g).mode = .manual ∧ (s.gate g).output = .inactive
  | .mark => s.time.align = .idle

theorem State.unownedParked_iff (s : State) : s.unownedParked ↔ ∀ r, s.owner r = none → s.isParked r := by
  refine ⟨fun ⟨hchannel, hentry, hgate, hmark⟩ r => ?_, fun h => ⟨fun c => h (.channel c), fun e => h (.entry e),
    fun g => h (.gate g), h .mark⟩⟩
  cases r with
  | axis _ => exact fun _ => trivial
  | channel c => exact hchannel c
  | entry e => exact hentry e
  | gate g => exact hgate g
  | mark => exact hmark

/-- From `s` to `t` no channel has come out of its states (R43, R49, R54), and no resource without an owner out of its park. -/
structure KeepsResources (s t : State) : Prop where
  channel : ∀ c, (s.channel c).ok c → (t.channel c).ok c
  parked : ∀ r, (s.owner r = none → s.isParked r) → t.owner r = none → t.isParked r

namespace KeepsResources

@[refl] theorem refl (s : State) : KeepsResources s s := ⟨fun _ => id, fun _ => id⟩

theorem trans (s t u : State) (h : KeepsResources s t) (k : KeepsResources t u) : KeepsResources s u :=
  ⟨fun c => k.channel c ∘ h.channel c, fun r => k.parked r ∘ h.parked r⟩

/-- A fold of operations that keep the resources keeps them. -/
theorem foldl {α : Type} (f : State → α → State) (h : ∀ t x, KeepsResources t (f t x)) (l : List α) (s : State) :
    KeepsResources s (l.foldl f s) := foldl_reaches KeepsResources refl trans f h l s

/-- A choice between operations that keep the resources keeps them. -/
theorem ite {b : Prop} [Decidable b] {s t u : State} (h : KeepsResources s t) (k : KeepsResources s u) :
    KeepsResources s (if b then t else u) := by
  split
  · exact h
  · exact k

theorem channelsOk {s t : State} (h : KeepsResources s t) (hs : s.channelsOk) : t.channelsOk := fun c => h.channel c (hs c)

theorem unownedParked {s t : State} (h : KeepsResources s t) (hs : s.unownedParked) : t.unownedParked :=
  t.unownedParked_iff.mpr fun r => h.parked r (s.unownedParked_iff.mp hs r)

/-- With the owners as they were, a change asks of each unit without an owner that it stays parked. -/
theorem of_units {s t : State} (hclaims : t.claims = s.claims) (hok : ∀ c, (s.channel c).ok c → (t.channel c).ok c)
    (hchannel : ∀ c, s.owner (.channel c) = none → s.isParked (.channel c) → t.isParked (.channel c))
    (hentry : ∀ e, s.owner (.entry e) = none → s.isParked (.entry e) → t.isParked (.entry e))
    (hgate : ∀ g, s.owner (.gate g) = none → s.isParked (.gate g) → t.isParked (.gate g))
    (hmark : s.owner .mark = none → s.isParked .mark → t.isParked .mark) : KeepsResources s t := by
  refine ⟨hok, fun r hr ho => ?_⟩
  have howner : t.owner r = s.owner r := by rw [State.owner, hclaims, State.owner]
  rw [howner] at ho
  cases r with
  | axis _ => trivial
  | channel c => exact hchannel c ho (hr ho)
  | entry e => exact hentry e ho (hr ho)
  | gate g => exact hgate g ho (hr ho)
  | mark => exact hmark ho (hr ho)

/-- A change of units that are no resources, or of what the sessions hold, keeps the resources. -/
theorem of_others {s t : State}
    (h : t = { s with time := { t.time with align := s.time.align }, mark := t.mark, axes := t.axes, lines := t.lines
                      log := t.log, underway := t.underway, sessions := t.sessions, ports := t.ports
                      executor := t.executor, discards := t.discards, pending := t.pending }) : KeepsResources s t := by
  rw [h]
  exact of_units rfl (fun _ => id) (fun _ _ => id) (fun _ _ => id) (fun _ _ => id) fun _ => id

end KeepsResources

/-! ### The updates of one unit -/

theorem OnlySessions.keepsResources {s t : State} (h : OnlySessions s t) : KeepsResources s t := by
  rw [h]; exact .of_others rfl

theorem OnlyLog.keepsResources {s t : State} (h : OnlyLog s t) : KeepsResources s t := by
  rw [h]; exact .of_others rfl

theorem State.setMark_keepsResources (s : State) (m : MarkUnit) : KeepsResources s (s.setMark m) := .of_others rfl
theorem State.setAxis_keepsResources (s : State) (n : AxisId) (x : Axis) : KeepsResources s (s.setAxis n x) := .of_others rfl
theorem State.setLine_keepsResources (s : State) (l : LineId) (x : TrigLine) : KeepsResources s (s.setLine l x) := .of_others rfl
theorem State.setSession_keepsResources (s : State) (p : PortId) (x : Option Session) : KeepsResources s (s.setSession p x) :=
  .of_others rfl
theorem State.setPort_keepsResources (s : State) (p : PortId) (q : Port) : KeepsResources s (s.setPort p q) := .of_others rfl
theorem State.request_keepsResources (s : State) (c : Capture) : KeepsResources s (s.request c) := .of_others rfl
theorem State.taken_keepsResources (s : State) (p : PortId) : KeepsResources s (s.taken p) := .of_others rfl
theorem State.deposit_keepsResources (s : State) (p : PortId) (r : Response) : KeepsResources s (s.deposit p r) := .of_others rfl
theorem State.discardQueues_keepsResources (s : State) (p : PortId) (kept : Nat) : KeepsResources s (s.discardQueues p kept) :=
  .of_others rfl

/-- A timebase set to what it may be while MARK has no owner (R130). -/
theorem State.setTime_keepsResources {s : State} {t : Timebase}
    (h : s.owner .mark = none → s.time.align = .idle → t.align = .idle) : KeepsResources s (s.setTime t) :=
  .of_units rfl (fun _ => id) (fun _ _ => id) (fun _ _ => id) (fun _ _ => id) h

/-- A channel set to what it may be, seen from before something that keeps the resources and the owners: in its states, and without
an owner in its park (R68). -/
theorem KeepsResources.setChannel {s t : State} {c : ChannelId} {x : Channel} (k : KeepsResources s t)
    (hclaims : t.claims = s.claims) (hok : (s.channel c).ok c → x.ok c)
    (h : s.owner (.channel c) = none → (s.channel c).state = .disarmed → x.state = .disarmed) :
    KeepsResources s (t.setChannel c x) := by
  have howner : ∀ r, t.owner r = s.owner r := fun r => by rw [State.owner, hclaims, State.owner]
  refine .of_units hclaims (fun d hd => ?_) (fun d ho hd => ?_) (fun e ho he => ?_) (fun g ho hg => ?_) fun ho hm => ?_
  · rw [State.setChannel_channel]
    split
    · next e => subst e; exact hok hd
    · exact k.channel d hd
  · rw [State.isParked, State.setChannel_channel]
    split
    · next e => subst e; exact h ho hd
    · exact k.parked (.channel d) (fun _ => hd) ((howner _).trans ho)
  · exact k.parked (.entry e) (fun _ => he) ((howner _).trans ho)
  · exact k.parked (.gate g) (fun _ => hg) ((howner _).trans ho)
  · exact k.parked .mark (fun _ => hm) ((howner _).trans ho)

theorem State.setChannel_keepsResources {s : State} {c : ChannelId} {x : Channel} (hok : (s.channel c).ok c → x.ok c)
    (h : s.owner (.channel c) = none → (s.channel c).state = .disarmed → x.state = .disarmed) :
    KeepsResources s (s.setChannel c x) := (KeepsResources.refl s).setChannel rfl hok h

theorem Channel.Kept.setChannel {s : State} {c : ChannelId} {x : Channel} (h : Channel.Kept c (s.channel c) x) :
    KeepsResources s (s.setChannel c x) := State.setChannel_keepsResources h.ok fun _ => h.disarmed

/-- An entry set to what it may be without an owner (R113). -/
theorem State.setEntry_keepsResources {s : State} {e : EntryId} {x : Entry}
    (h : s.owner (.entry e) = none → (s.entry e).enabled = false → x.enabled = false) : KeepsResources s (s.setEntry e x) := by
  refine .of_units rfl (fun _ => id) (fun _ _ => id) (fun k ho hk => ?_) (fun _ _ => id) fun _ => id
  rw [State.isParked, State.setEntry_entry]
  split
  · next he => subst he; exact h ho hk
  · exact hk

/-- A change of the gates that lets none without an owner leave its park (R114). -/
theorem OnlyGates.keepsResources {s t : State} (h : OnlyGates s t)
    (hg : ∀ g, s.owner (.gate g) = none → s.isParked (.gate g) → t.isParked (.gate g)) : KeepsResources s t := by
  unfold OnlyGates at h
  generalize t.gates = gates at h
  subst h
  exact .of_units rfl (fun _ => id) (fun _ _ => id) (fun _ _ => id) hg fun _ => id

/-- A gate set to what it may be without an owner (R114). -/
theorem State.setGate_keepsResources {s : State} {g : GateId} {x : Gate}
    (h : s.owner (.gate g) = none → s.isParked (.gate g) → x.mode = .manual ∧ x.output = .inactive) :
    KeepsResources s (s.setGate g x) := by
  refine OnlyGates.keepsResources rfl fun k ho hk => ?_
  rw [State.isParked, State.setGate_gate]
  split
  · next hg => subst hg; exact h ho hk
  · exact hk

/-! ### Captures and events (R10, R14, R152) -/

theorem State.raiseToOwner_keepsResources (s : State) (r : Resource) (ev : Event) : KeepsResources s (s.raiseToOwner r ev) :=
  (s.raiseToOwner_only r ev).keepsResources

/-- A raising to the owner of a resource after what keeps the resources. -/
theorem KeepsResources.raiseToOwner {s t : State} (h : KeepsResources s t) (r : Resource) (ev : Event) :
    KeepsResources s (t.raiseToOwner r ev) := trans _ _ _ h (t.raiseToOwner_keepsResources r ev)

theorem State.capture_keepsResources (s : State) (c : Capture) : KeepsResources s (s.capture c).1 :=
  (s.capture_only c).keepsResources

theorem State.handOver_keepsResources (s : State) (c : Capture) : KeepsResources s (s.handOver c).1 := by
  have h := s.capture_keepsResources c
  unfold State.handOver
  dsimp only
  split
  · exact KeepsResources.trans _ _ _ h (Channel.dropped_kept _ _).setChannel
  · exact h
  · exact h
  · exact h

theorem State.arrive_keepsResources (s : State) (now rest : List Capture) : KeepsResources s (s.arrive now rest) :=
  KeepsResources.trans s { s with underway := rest } _ (.of_others rfl)
    (KeepsResources.foldl _ State.handOver_keepsResources now _)

/-! ### Channels and lines (R45, R49, R51, R52, R54) -/

theorem State.fire_keepsResources {s : State} {c : ChannelId} (h : (s.channel c).state = .armed) :
    KeepsResources s (s.fire c) := by
  have kept : ∀ d, Channel.Kept d (s.channel d) ((s.fire c).channel d) := fun d => by
    rw [State.fire_channel]
    split
    · next hd => exact hd ▸ Channel.afterFiring_kept c h
    · exact Channel.notice_kept d c _
  rw [s.fire_eq c]
  exact .of_units rfl (fun d => (kept d).ok) (fun d _ => (kept d).disarmed) (fun _ _ => id) (fun _ _ => id) fun _ => id

theorem State.triggerEvent_keepsResources (s : State) (c : ChannelId) : KeepsResources s (s.triggerEvent c) := by
  have ignored := (Channel.ignored_kept c (s.channel c)).setChannel.raiseToOwner (.channel c)
    (.trigIgnored c)
  unfold State.triggerEvent
  dsimp only
  split
  · exact KeepsResources.refl s
  · exact KeepsResources.refl s
  · next h => exact KeepsResources.trans _ _ _ (s.request_keepsResources _) (State.fire_keepsResources h)
  · exact ignored
  · exact ignored

/-- Trigger events after what keeps the resources. -/
theorem KeepsResources.triggerEvents {s t : State} (h : KeepsResources s t) (l : List ChannelId) :
    KeepsResources s (t.triggerEvents l) := trans _ _ _ h (foldl _ State.triggerEvent_keepsResources l t)

theorem State.takeBurstStep_keepsResources (s : State) (c : ChannelId) : KeepsResources s (s.takeBurstStep c) := by
  by_cases h : (s.channel c).state = .bursting ∧ (s.channel c).stepDue = true
  · obtain ⟨hbursting, -⟩ := id h
    have stepped := KeepsResources.trans _ _ _ (s.request_keepsResources (s.channelCapture c (s.channel c).nextIndex))
      (Channel.Kept.setChannel (s := s.request _) (Channel.afterStep_kept c hbursting))
    rw [State.takeBurstStep_of_due h]
    exact KeepsResources.ite stepped (stepped.raiseToOwner _ _)
  · rw [State.takeBurstStep_of_not_due h]

theorem State.sampleTrigLine_keepsResources (s : State) (l : LineId) (order : List ChannelId) :
    KeepsResources s (s.sampleTrigLine l order) := by
  unfold State.sampleTrigLine
  dsimp only
  exact KeepsResources.ite ((s.setLine_keepsResources l _).triggerEvents _) (s.setLine_keepsResources l _)

theorem State.showTrigLine_keepsResources (s : State) (l : LineId) (raw : Level) (order : List ChannelId) :
    KeepsResources s (s.showTrigLine l raw order) := by
  have shown := s.setLine_keepsResources l
  unfold State.showTrigLine
  dsimp only
  exact KeepsResources.ite (shown _) (KeepsResources.trans _ _ _ (shown _) (State.sampleTrigLine_keepsResources _ l order))

/-! ### Gates, entries and axes (R72, R87, R99 to R101, R107, R108) -/

theorem State.followGates_keepsResources (s : State) (e : EntryId) : KeepsResources s (s.followGates e) := by
  refine (s.followGates_only e).keepsResources fun g _ hp => ?_
  obtain ⟨hmode, -⟩ := id hp
  rwa [State.isParked, State.followGates_gate, State.followGate, if_neg (by simp [hmode])]

theorem State.pulseGates_keepsResources (s : State) (e : EntryId) : KeepsResources s (s.pulseGates e) := by
  refine (s.pulseGates_only e).keepsResources fun g _ hp => ?_
  obtain ⟨hmode, -⟩ := id hp
  rwa [State.isParked, State.pulseGates_gate, Gate.hit, if_neg (by simp [hmode])]

theorem State.takeGatePulseEnd_keepsResources (s : State) (g : GateId) : KeepsResources s (s.takeGatePulseEnd g) :=
  KeepsResources.ite (State.setGate_keepsResources fun _ ⟨hmode, _⟩ => ⟨hmode, rfl⟩) (KeepsResources.refl s)

/-- An entry that keeps whether it is enabled, and the gates that follow its met flag. -/
theorem State.setMet_keepsResources (s : State) (e : EntryId) (met : Bool) : KeepsResources s (s.setMet e met) := by
  have set : KeepsResources s (s.setEntry e { s.entry e with met := met }) := State.setEntry_keepsResources fun _ => id
  unfold State.setMet
  dsimp only
  exact KeepsResources.ite (KeepsResources.refl s) (KeepsResources.trans _ _ _ set (State.followGates_keepsResources _ e))

/-- An entry set to what it may be without an owner, and the gates that follow its met flag. -/
theorem State.replaceEntry_keepsResources {s : State} {e : EntryId} {x : Entry}
    (h : s.owner (.entry e) = none → (s.entry e).enabled = false → x.enabled = false) :
    KeepsResources s (s.replaceEntry e x) := by
  have set := State.setEntry_keepsResources h
  unfold State.replaceEntry
  dsimp only
  exact KeepsResources.ite set (KeepsResources.trans _ _ _ set (State.followGates_keepsResources _ e))

theorem State.requestMark_keepsResources (s : State) (e : EntryId) : KeepsResources s (s.requestMark e) := by
  unfold State.requestMark
  exact KeepsResources.ite (s.setMark_keepsResources _) (State.setEntry_keepsResources fun _ => id)

theorem State.hit_keepsResources (s : State) (e : EntryId) : KeepsResources s (s.hit e) := by
  unfold State.hit
  dsimp only
  have recorded : KeepsResources s (s.setEntry e ((s.entry e).recordHit s.stamp)) := State.setEntry_keepsResources fun _ => id
  have told : KeepsResources s (if (s.entry e).event then
      (s.setEntry e ((s.entry e).recordHit s.stamp)).raiseToOwner (.entry e) (.cmpHit e)
      else s.setEntry e ((s.entry e).recordHit s.stamp)) :=
    KeepsResources.ite (recorded.raiseToOwner _ _) recorded
  have pulsed := KeepsResources.trans _ _ _ told (State.pulseGates_keepsResources _ e)
  exact KeepsResources.ite (KeepsResources.trans _ _ _ pulsed (State.requestMark_keepsResources _ e)) pulsed

theorem State.offerEntry_keepsResources (kind : OfferKind) (v : Int) (s : State) (e : EntryId) :
    KeepsResources s (State.offerEntry kind v s e) := by
  have met := s.setMet_keepsResources e ((s.entry e).condition v)
  unfold State.offerEntry
  dsimp only
  exact KeepsResources.ite (KeepsResources.refl s)
    (KeepsResources.ite (KeepsResources.trans _ _ _ met (State.hit_keepsResources _ e)) met)

/-- An axis set anew, which then offers its count. -/
theorem State.setAxis_offer_keepsResources (s : State) (n : AxisId) (x : Axis) (kind : OfferKind) (entries : List EntryId) :
    KeepsResources s ((s.setAxis n x).offer n kind entries) :=
  KeepsResources.trans _ _ _ (s.setAxis_keepsResources n x)
    (KeepsResources.foldl _ (State.offerEntry_keepsResources kind _) _ _)

theorem State.faultAxis_keepsResources (s : State) (n : AxisId) (x : Axis) (cause : FaultCause) :
    KeepsResources s (s.faultAxis n x cause) := (s.setAxis_keepsResources n _).raiseToOwner _ _

theorem State.applyDecoded_keepsResources (s : State) (n : AxisId) (d : Decoded) (entries : List EntryId)
    (channels : List ChannelId) : KeepsResources s (s.applyDecoded n d entries channels) := by
  unfold State.applyDecoded
  dsimp only
  split
  · exact KeepsResources.refl s
  · split
    · exact KeepsResources.refl s
    · exact s.faultAxis_keepsResources n _ _
    · split
      · exact (s.setAxis_offer_keepsResources n _ .step entries).triggerEvents _
      · exact s.faultAxis_keepsResources n _ _

theorem State.sampleAB_keepsResources (s : State) (n : AxisId) (entries : List EntryId) (channels : List ChannelId) :
    KeepsResources s (s.sampleAB n entries channels) := by
  unfold State.sampleAB
  exact KeepsResources.trans _ _ _ (s.setAxis_keepsResources n _) (State.applyDecoded_keepsResources _ n _ entries channels)

theorem State.sampleZ_keepsResources (s : State) (n : AxisId) (channels : List ChannelId) :
    KeepsResources s (s.sampleZ n channels) := by
  unfold State.sampleZ
  dsimp only
  exact KeepsResources.ite ((s.setAxis_keepsResources n _).triggerEvents _) (s.setAxis_keepsResources n _)

theorem State.showAxis_keepsResources (s : State) (n : AxisId) (input : AxisInput) :
    KeepsResources s (s.showAxis n input) := by
  have shown := s.setAxis_keepsResources n
  cases input with
  | ab a b entries channels =>
    have sampled := s.sampleAB_keepsResources n entries channels.events
    exact KeepsResources.ite (shown _) (KeepsResources.ite
      (KeepsResources.trans _ _ _ sampled (State.setAxis_keepsResources _ n _))
      (KeepsResources.trans _ _ _ (shown _) (State.sampleAB_keepsResources _ n _ _)))
  | z z channels =>
    exact KeepsResources.ite (shown _) (KeepsResources.trans _ _ _ (shown _) (State.sampleZ_keepsResources _ n _))

/-! ### The MARK line (R120, R123, R124) -/

theorem State.takeMarkPulseEnd_keepsResources (s : State) : KeepsResources s s.takeMarkPulseEnd :=
  KeepsResources.ite (s.setMark_keepsResources _) (KeepsResources.refl s)

theorem State.takeRearm_keepsResources (s : State) : KeepsResources s s.takeRearm :=
  KeepsResources.ite (s.setMark_keepsResources _) (KeepsResources.refl s)

theorem State.alignAtEdge_keepsResources (s : State) : KeepsResources s s.alignAtEdge := by
  have aligned : KeepsResources s (s.setTime s.time.aligned) := State.setTime_keepsResources fun _ _ => rfl
  exact KeepsResources.ite (KeepsResources.trans _ _ _ aligned (State.raiseToAll_only _ _).keepsResources)
    (KeepsResources.refl s)

theorem State.recogniseEdge_keepsResources (s : State) (order : List ChannelId) : KeepsResources s (s.recogniseEdge order) := by
  have captured : KeepsResources s s.alignAtEdge.markCapture :=
    KeepsResources.trans _ _ _ s.alignAtEdge_keepsResources
      (KeepsResources.ite (KeepsResources.refl _) (State.request_keepsResources _ _))
  exact KeepsResources.trans _ _ _ (captured.triggerEvents _) (State.markNotify_only _).keepsResources

theorem State.sampleMark_keepsResources (s : State) (order : List ChannelId) : KeepsResources s (s.sampleMark order) := by
  have sampled := s.setMark_keepsResources s.mark.sample.1
  exact KeepsResources.ite (KeepsResources.trans _ _ _ sampled (State.recogniseEdge_keepsResources _ order)) sampled

theorem State.takeRecognisedEdge_keepsResources (s : State) (order : List ChannelId) :
    KeepsResources s (s.takeRecognisedEdge order) :=
  KeepsResources.ite (s.sampleMark_keepsResources order) (KeepsResources.refl s)

/-! ### Owners, parks and closes (R138, R139, R145 to R147) -/

/-- Whether a resource is parked does not depend on its owner. -/
theorem State.setOwner_isParked (s : State) (r k : Resource) (o : Option PortId) :
    (s.setOwner r o).isParked k ↔ s.isParked k := by
  cases k <;> exact Iff.rfl

/-- A resource that is given an owner keeps its unit, and the others their owners (R145, R146). -/
theorem State.setOwner_some_keepsResources (s : State) (r : Resource) (p : PortId) :
    KeepsResources s (s.setOwner r (some p)) := by
  refine ⟨fun _ => id, fun k hk ho => (s.setOwner_isParked r k _).mpr (hk ?_)⟩
  rw [State.setOwner_owner] at ho
  split at ho
  · cases ho
  · exact ho

theorem State.park_isParked (s : State) (r : Resource) : (s.park r).isParked r := by
  cases r with
  | axis _ => trivial
  | channel c => rw [State.park, State.isParked, State.setChannel_channel_same]; rfl
  | entry e => rw [State.park, State.isParked, State.replaceEntry_entry, if_pos rfl]; rfl
  | gate g => rw [State.park, State.isParked, State.setGate_gate_same]; exact ⟨rfl, rfl⟩
  | mark => rfl

theorem State.park_keepsResources (s : State) (r : Resource) : KeepsResources s (s.park r) := by
  cases r with
  | axis _ => exact KeepsResources.refl s
  | channel c => exact (Channel.disarmed_kept c _).setChannel
  | entry e => exact State.replaceEntry_keepsResources fun _ _ => rfl
  | gate g => exact State.setGate_keepsResources fun _ _ => ⟨rfl, rfl⟩
  | mark => exact State.setTime_keepsResources fun _ _ => rfl

/-- A resource given up loses its owner and is parked in the same happening (R138, R147). -/
theorem State.giveUp_keepsResources (s : State) (r : Resource) : KeepsResources s (s.giveUp r) := by
  have park := (s.setOwner r none).park_keepsResources r
  refine ⟨park.channel, fun k hk ho => ?_⟩
  by_cases hkr : k = r
  · rw [hkr]
    exact State.park_isParked _ r
  · refine park.parked k (fun hs => (s.setOwner_isParked r k none).mpr (hk ?_)) ho
    rwa [State.setOwner_owner_ne _ _ _ hkr] at hs

theorem State.closeSession_keepsResources (s : State) (p : PortId) : KeepsResources s (s.closeSession p) :=
  KeepsResources.trans _ _ _
    (KeepsResources.foldl _ (fun t r => KeepsResources.ite (t.giveUp_keepsResources r) (KeepsResources.refl t)) allResources s)
    (State.setSession_keepsResources _ p none)

theorem State.expire_keepsResources (s : State) (p : PortId) : KeepsResources s (s.expire p) :=
  KeepsResources.trans _ _ _ (KeepsResources.trans _ _ _ (s.closeSession_keepsResources p)
    (State.discardQueues_keepsResources _ p 0)) (State.setPort_keepsResources _ p _)

theorem State.takeExpiry_keepsResources (s : State) (p : PortId) : KeepsResources s (s.takeExpiry p) :=
  KeepsResources.ite (s.expire_keepsResources p) (KeepsResources.refl s)

theorem State.expireLast_keepsResources (s : State) (p : PortId) : KeepsResources s (s.expireLast p) :=
  KeepsResources.ite (s.expire_keepsResources p) (KeepsResources.refl s)

/-- With every channel, entry and gate at its reset value and no alignment armed, every resource is parked. -/
theorem KeepsResources.of_reset {s t : State} (hchannel : ∀ c, t.channel c = Channel.reset)
    (hentry : ∀ e, t.entry e = Entry.reset) (hgate : ∀ g, t.gate g = Gate.reset) (halign : t.time.align = .idle) :
    KeepsResources s t := by
  refine ⟨fun c _ => by rw [hchannel]; exact Channel.reset_ok c, fun r _ _ => ?_⟩
  cases r with
  | axis _ => trivial
  | channel c => rw [State.isParked, hchannel]; rfl
  | entry e => rw [State.isParked, hentry]; rfl
  | gate g => rw [State.isParked, hgate]; exact ⟨rfl, rfl⟩
  | mark => exact halign

theorem State.resetBlocks_keepsResources (s : State) : KeepsResources s s.resetBlocks :=
  .of_reset (Bank.read_replicate _) (Bank.read_replicate _) (Bank.read_replicate _) rfl

theorem State.pinReset_keepsResources (s : State) : KeepsResources s s.pinReset :=
  .of_reset State.reset_channel State.reset_entry State.reset_gate rfl

/-! ### Host ports (R134, R162 to R168) -/

/-- From `s` to `t` nothing but the ports has changed. -/
def OnlyPorts (s t : State) : Prop := t = { s with ports := t.ports }

@[refl] theorem OnlyPorts.refl (s : State) : OnlyPorts s s := rfl

theorem OnlyPorts.keepsResources {s t : State} (h : OnlyPorts s t) : KeepsResources s t := by
  rw [h]; exact .of_others rfl

theorem State.unblock_only (s : State) (p : PortId) : OnlyPorts s (s.unblock p) := by
  unfold State.unblock
  dsimp only
  split <;> rfl

theorem State.beginTransaction_only (s : State) (p : PortId) : OnlyPorts s (s.beginTransaction p) := by
  unfold State.beginTransaction
  dsimp only
  split <;> rfl

theorem State.showStatus_only (s : State) (p : PortId) (received : Byte) : OnlyPorts s (s.showStatus p received) := by
  unfold State.showStatus
  dsimp only
  split
  · rfl
  · rfl
  · split <;> rfl

theorem State.deliverResponse_only (s : State) (p : PortId) (received : List Byte) :
    OnlyPorts s (s.deliverResponse p received) := by
  unfold State.deliverResponse
  dsimp only
  split
  · rfl
  · rfl
  · split
    · rfl
    · split <;> rfl

theorem State.reloadTimer_only (s : State) (p : PortId) : OnlySessions s (s.reloadTimer p) := by
  unfold State.reloadTimer
  split <;> rfl

theorem State.endTransaction_keepsResources (s : State) (p : PortId) (received : List Byte) :
    KeepsResources s (s.endTransaction p received) := by
  have before : KeepsResources s (s.beforeFrame p) := KeepsResources.ite (s.expire_keepsResources p) (KeepsResources.refl s)
  unfold State.endTransaction
  dsimp only
  split
  · exact KeepsResources.refl s
  · exact KeepsResources.refl s
  · split
    · exact s.setPort_keepsResources p _
    · exact s.setPort_keepsResources p _
    · exact KeepsResources.trans _ _ _ (KeepsResources.trans _ _ _ before (State.setPort_keepsResources _ p _))
        (State.reloadTimer_only _ p).keepsResources

end Sys2Proof.Machine

/-! ## Every step keeps the resources (O7, O15) -/

namespace Sys2Proof.Machine

/-! ### The requests (R172, R173) -/

/-- A request that keeps the resources. -/
def Server.KeepsResources (serve : Server) : Prop := ∀ p payload s, Leaves (Machine.KeepsResources s) (serve p payload s)

/-- A request that only reports keeps the resources. -/
theorem leaves_report_keepsResources {s : State} (payload : List Byte) : Leaves (KeepsResources s) (.ok (payload, s)) :=
  leaves_ok (KeepsResources.refl s)

/-- A requester that has come beyond step 6 owns the resource (R149). -/
theorem owner_ne_none_of_requireOwner {s : State} {p : PortId} {r : Resource} {u : Unit} (h : requireOwner s p r = .ok u) :
    s.owner r ≠ none := by
  have howner : s.owner r = some p := decide_eq_true_eq.mp (require_ok h)
  simp [howner]

theorem openServer_keepsResources : Server.KeepsResources openServer := fun p _ s =>
  leaves_bind fun _ _ => leaves_bind fun _ _ => leaves_bind fun _ _ => leaves_bind fun _ _ =>
    leaves_ok (s.setSession_keepsResources p _)

theorem closeServer_keepsResources : Server.KeepsResources closeServer := fun p _ s =>
  leaves_sessionRequest fun _ _ _ => leaves_ok (s.closeSession_keepsResources p)

theorem pingServer_keepsResources : Server.KeepsResources pingServer := fun _ _ _ =>
  leaves_sessionRequest fun _ _ _ => leaves_report_keepsResources _

theorem deviceInfoServer_keepsResources : Server.KeepsResources deviceInfoServer := fun _ _ _ =>
  leaves_sessionRequest fun _ _ _ => leaves_report_keepsResources _

theorem State.closeAll_keepsResources (s : State) : KeepsResources s s.closeAll :=
  KeepsResources.foldl _ (fun t p => KeepsResources.ite (t.closeSession_keepsResources p) (KeepsResources.refl t)) allPorts s

theorem deviceResetServer_keepsResources : Server.KeepsResources deviceResetServer := fun _ _ s =>
  leaves_sessionRequest fun _ _ _ => leaves_bind fun _ _ =>
    leaves_ok (KeepsResources.trans _ _ _ s.closeAll_keepsResources (State.resetBlocks_keepsResources _))

theorem claimServer_keepsResources : Server.KeepsResources claimServer := fun p _ s =>
  leaves_sessionRequest fun _ _ _ => leaves_bind fun r _ => leaves_bind fun _ _ => by
    have claimed := s.setOwner_some_keepsResources r p
    split
    · exact leaves_ok claimed
    · split
      · exact leaves_report_keepsResources _
      · split
        · exact leaves_error _
        · split
          · exact leaves_ok (KeepsResources.trans _ _ _ claimed (State.raiseTo_only _ _ _).keepsResources)
          · exact leaves_error _

theorem releaseServer_keepsResources : Server.KeepsResources releaseServer := fun _ _ s =>
  leaves_sessionRequest fun _ _ _ => leaves_bind fun r _ => leaves_bind fun _ _ => leaves_ok (s.giveUp_keepsResources r)

theorem whoOwnsServer_keepsResources : Server.KeepsResources whoOwnsServer := fun _ _ _ =>
  leaves_sessionRequest fun _ _ _ => by
    unfold whoOwnsBody
    split
    · exact leaves_report_keepsResources _
    · exact leaves_bind fun _ _ => leaves_report_keepsResources _

theorem axisSetupServer_keepsResources : Server.KeepsResources axisSetupServer := fun _ _ s =>
  leaves_sessionRequest fun _ _ _ => leaves_bind fun n _ => leaves_bind fun _ _ => leaves_bind fun _ _ =>
    leaves_bind fun _ _ => leaves_bind fun _ _ => leaves_ok (s.setAxis_keepsResources n _)

theorem axisSpanServer_keepsResources : Server.KeepsResources axisSpanServer := fun _ _ s =>
  leaves_sessionRequest fun _ _ _ => leaves_bind fun n _ => leaves_bind fun _ _ => leaves_bind fun _ _ =>
    leaves_ok (s.setAxis_offer_keepsResources n _ _ _)

theorem axisPresetServer_keepsResources : Server.KeepsResources axisPresetServer := fun _ _ s =>
  leaves_sessionRequest fun _ _ _ => leaves_bind fun n _ => leaves_bind fun _ _ => leaves_bind fun _ _ =>
    leaves_bind fun _ _ => leaves_ok (s.setAxis_offer_keepsResources n _ _ _)

theorem axisClearFaultServer_keepsResources : Server.KeepsResources axisClearFaultServer := fun _ _ s =>
  leaves_sessionRequest fun _ _ _ => leaves_bind fun n _ => leaves_bind fun _ _ => leaves_bind fun _ _ =>
    leaves_bind fun _ _ => leaves_ok (s.setAxis_offer_keepsResources n _ _ _)

theorem axisReadServer_keepsResources : Server.KeepsResources axisReadServer := fun _ _ _ =>
  leaves_sessionRequest fun _ _ _ => leaves_bind fun _ _ => leaves_bind fun _ _ => leaves_report_keepsResources _

theorem snapServer_keepsResources : Server.KeepsResources snapServer := fun _ _ s =>
  leaves_sessionRequest fun _ _ _ => leaves_bind fun _ _ => leaves_bind fun _ _ => leaves_bind fun _ _ => by
    dsimp only
    split
    · exact leaves_ok (s.capture_keepsResources _)
    · exact leaves_report_keepsResources _

theorem timeReadServer_keepsResources : Server.KeepsResources timeReadServer := fun _ _ _ =>
  leaves_sessionRequest fun _ _ _ => leaves_report_keepsResources _

theorem alignArmServer_keepsResources : Server.KeepsResources alignArmServer := fun _ _ _ =>
  leaves_sessionRequest fun _ _ _ => leaves_bind fun _ _ => leaves_bind fun _ howner =>
    leaves_ok (State.setTime_keepsResources fun ho => absurd ho (owner_ne_none_of_requireOwner howner))

theorem alignCancelServer_keepsResources : Server.KeepsResources alignCancelServer := fun _ _ _ =>
  leaves_sessionRequest fun _ _ _ => leaves_bind fun _ _ => leaves_ok (State.setTime_keepsResources fun _ _ => rfl)

theorem markSetupServer_keepsResources : Server.KeepsResources markSetupServer := fun _ _ s =>
  leaves_sessionRequest fun _ _ _ => leaves_bind fun _ _ => leaves_bind fun _ _ => leaves_bind fun _ _ =>
    leaves_ok (s.setMark_keepsResources _)

theorem markPulseServer_keepsResources : Server.KeepsResources markPulseServer := fun _ _ s =>
  leaves_sessionRequest fun _ _ _ => leaves_bind fun _ _ => leaves_ok (s.setMark_keepsResources _)

theorem trigSetupServer_keepsResources : Server.KeepsResources trigSetupServer := fun _ _ s =>
  leaves_sessionRequest fun _ _ _ => leaves_bind fun c _ => leaves_bind fun _ hconfig => leaves_bind fun _ _ =>
    leaves_bind fun _ hidle =>
      have configured := Channel.setup_kept (x := s.channel c) (channelConfigFields_ok hconfig)
        (decide_eq_true_eq.mp (require_ok hidle))
      leaves_ok ((s.arrive_keepsResources _ _).setChannel (by rw [s.arrive_only]) configured.ok fun _ => configured.disarmed)

theorem trigLineFilterServer_keepsResources : Server.KeepsResources trigLineFilterServer := fun _ _ s =>
  leaves_sessionRequest fun _ _ _ => leaves_bind fun l _ => leaves_bind fun _ _ => leaves_ok (s.setLine_keepsResources l _)

theorem trigArmServer_keepsResources : Server.KeepsResources trigArmServer := fun _ _ _ =>
  leaves_sessionRequest fun _ _ _ => leaves_bind fun _ _ => leaves_bind fun _ howner => leaves_bind fun _ _ =>
    leaves_ok (State.setChannel_keepsResources Channel.arm_ok
      fun ho => absurd ho (owner_ne_none_of_requireOwner howner))

theorem trigDisarmServer_keepsResources : Server.KeepsResources trigDisarmServer := fun _ _ s =>
  leaves_sessionRequest fun _ _ _ => leaves_bind fun c _ => leaves_bind fun _ _ =>
    have disarmed := (Channel.disarmed_kept c (s.channel c)).setChannel
    leaves_ok (KeepsResources.ite (disarmed.raiseToOwner _ _) disarmed)

theorem trigFireServer_keepsResources : Server.KeepsResources trigFireServer := fun _ _ _ =>
  leaves_sessionRequest fun _ _ _ => leaves_bind fun _ _ => leaves_bind fun _ _ => leaves_bind fun _ harmed =>
    leaves_ok (KeepsResources.trans _ _ _ (State.fire_keepsResources (decide_eq_true_eq.mp (require_ok harmed)))
      (State.handOver_keepsResources _ _))

theorem trigStatusServer_keepsResources : Server.KeepsResources trigStatusServer := fun _ _ _ =>
  leaves_sessionRequest fun _ _ _ => leaves_bind fun _ _ => leaves_report_keepsResources _

theorem logSubscribeServer_keepsResources : Server.KeepsResources logSubscribeServer := fun p _ s =>
  leaves_sessionRequest fun _ _ _ => leaves_bind fun _ _ => leaves_bind fun _ _ => leaves_bind fun _ _ =>
    leaves_ok (s.setReader_levelCheck_only p _).keepsResources

theorem logUnsubscribeServer_keepsResources : Server.KeepsResources logUnsubscribeServer := fun p _ s =>
  leaves_sessionRequest fun _ _ _ => leaves_bind fun _ _ => leaves_ok (s.setReader_only p none).keepsResources

theorem logFetchServer_keepsResources : Server.KeepsResources logFetchServer := fun _ _ _ =>
  leaves_sessionRequest fun _ _ _ => leaves_bind fun _ _ => leaves_bind fun _ _ => leaves_report_keepsResources _

theorem logReleaseServer_keepsResources : Server.KeepsResources logReleaseServer := fun p _ s =>
  leaves_sessionRequest fun _ _ _ => leaves_bind fun _ _ => by
    dsimp only
    split
    · exact leaves_error _
    · exact leaves_report_keepsResources _
    · exact leaves_ok (s.setReader_levelCheck_only p _).keepsResources

theorem logStatusServer_keepsResources : Server.KeepsResources logStatusServer := fun _ _ _ =>
  leaves_sessionRequest fun _ _ _ => by
    unfold logStatusBody
    dsimp only
    split <;> exact leaves_report_keepsResources _

theorem cmpSetupServer_keepsResources : Server.KeepsResources cmpSetupServer := fun _ _ _ =>
  leaves_sessionRequest fun _ _ _ => leaves_bind fun _ _ => leaves_bind fun _ _ => leaves_bind fun _ _ =>
    leaves_bind fun _ _ => leaves_bind fun _ _ => leaves_bind fun _ _ => leaves_bind fun _ _ =>
      leaves_ok (State.replaceEntry_keepsResources fun _ _ => rfl)

theorem cmpEnableServer_keepsResources : Server.KeepsResources cmpEnableServer := fun _ _ _ =>
  leaves_sessionRequest fun _ _ _ => leaves_bind fun _ _ => leaves_bind fun _ howner =>
    leaves_ok (State.replaceEntry_keepsResources fun ho => absurd ho (owner_ne_none_of_requireOwner howner))

theorem cmpDisableServer_keepsResources : Server.KeepsResources cmpDisableServer := fun _ _ _ =>
  leaves_sessionRequest fun _ _ _ => leaves_bind fun _ _ => leaves_bind fun _ _ =>
    leaves_ok (State.replaceEntry_keepsResources fun _ _ => rfl)

theorem cmpStatusServer_keepsResources : Server.KeepsResources cmpStatusServer := fun _ _ _ =>
  leaves_sessionRequest fun _ _ _ => leaves_bind fun _ _ => leaves_report_keepsResources _

theorem gateSetupServer_keepsResources : Server.KeepsResources gateSetupServer := fun _ _ _ =>
  leaves_sessionRequest fun _ _ _ => leaves_bind fun _ _ => leaves_bind fun _ _ => leaves_bind fun _ _ =>
    leaves_bind fun _ _ => leaves_bind fun _ _ => leaves_bind fun _ howner =>
      leaves_ok (State.setGate_keepsResources fun ho => absurd ho (owner_ne_none_of_requireOwner howner))

theorem gateSetServer_keepsResources : Server.KeepsResources gateSetServer := fun _ _ _ =>
  leaves_sessionRequest fun _ _ _ => leaves_bind fun _ _ => leaves_bind fun _ _ => leaves_bind fun _ howner =>
    leaves_ok (State.setGate_keepsResources fun ho => absurd ho (owner_ne_none_of_requireOwner howner))

theorem gateStatusServer_keepsResources : Server.KeepsResources gateStatusServer := fun _ _ _ =>
  leaves_sessionRequest fun _ _ _ => leaves_bind fun _ _ => leaves_report_keepsResources _

theorem eventMaskServer_keepsResources : Server.KeepsResources eventMaskServer := fun p _ s =>
  leaves_sessionRequest fun _ _ _ => leaves_bind fun _ _ => leaves_ok (s.setSession_keepsResources p _)

theorem eventReadServer_keepsResources : Server.KeepsResources eventReadServer := fun _ _ _ =>
  leaves_sessionRequest fun _ _ _ => leaves_report_keepsResources _

theorem eventAckServer_keepsResources : Server.KeepsResources eventAckServer := fun p _ s =>
  leaves_sessionRequest fun _ _ _ => leaves_bind fun _ _ => leaves_ok (s.setSession_keepsResources p _)

/-- Every request of the table keeps the resources. -/
theorem requestTable_keepsResources : ∀ e ∈ requestTable, Server.KeepsResources e.2 := by
  simp only [requestTable, List.forall_mem_cons]
  exact ⟨openServer_keepsResources, closeServer_keepsResources, pingServer_keepsResources, deviceInfoServer_keepsResources,
    deviceResetServer_keepsResources, claimServer_keepsResources, releaseServer_keepsResources,
    whoOwnsServer_keepsResources, axisSetupServer_keepsResources, axisSpanServer_keepsResources,
    axisPresetServer_keepsResources, axisClearFaultServer_keepsResources, axisReadServer_keepsResources,
    snapServer_keepsResources, timeReadServer_keepsResources, alignArmServer_keepsResources,
    alignCancelServer_keepsResources, markSetupServer_keepsResources, markPulseServer_keepsResources,
    trigSetupServer_keepsResources, trigLineFilterServer_keepsResources, trigArmServer_keepsResources,
    trigDisarmServer_keepsResources, trigFireServer_keepsResources, trigStatusServer_keepsResources,
    logSubscribeServer_keepsResources, logUnsubscribeServer_keepsResources, logFetchServer_keepsResources,
    logReleaseServer_keepsResources, logStatusServer_keepsResources, cmpSetupServer_keepsResources,
    cmpEnableServer_keepsResources, cmpDisableServer_keepsResources, cmpStatusServer_keepsResources,
    gateSetupServer_keepsResources, gateSetServer_keepsResources, gateStatusServer_keepsResources,
    eventMaskServer_keepsResources, eventReadServer_keepsResources, eventAckServer_keepsResources, List.forall_mem_nil _⟩

theorem State.discardAll_keepsResources (s : State) (p : PortId) : KeepsResources s (s.discardAll p) :=
  KeepsResources.foldl _ (fun t q => t.discardQueues_keepsResources q _) allPorts s

theorem State.takeNextRequest_keepsResources (s : State) : KeepsResources s s.takeNextRequest :=
  State.takeNextRequest_preserves (P := KeepsResources s)
    (fun t p h => KeepsResources.trans _ _ _ h (t.taken_keepsResources p))
    (fun t p r h => KeepsResources.trans _ _ _ h (t.deposit_keepsResources p r))
    (fun t h => KeepsResources.trans _ _ _ h (t.arrive_keepsResources _ _))
    (fun t p h => KeepsResources.trans _ _ _ h (t.discardAll_keepsResources p))
    (fun e he p payload t ht bytes u hu =>
      KeepsResources.trans _ _ _ ht (requestTable_keepsResources e he p payload t bytes u hu)) s (KeepsResources.refl s)

/-! ### The tick (R54, R108, R112; log entry 2) -/

theorem State.sampleAxesLeft_keepsResources (s : State) : KeepsResources s s.sampleAxesLeft := by
  rw [s.sampleAxesLeft_eq]
  refine KeepsResources.foldl _ (fun t n => ?_) allAxes s
  exact KeepsResources.trans _ _ _ (KeepsResources.ite (KeepsResources.refl t) (t.sampleAB_keepsResources n [] []))
    (KeepsResources.ite (KeepsResources.refl _) (State.sampleZ_keepsResources _ n []))

theorem State.sampleLinesLeft_keepsResources (s : State) : KeepsResources s s.sampleLinesLeft :=
  KeepsResources.foldl _ (fun t l => KeepsResources.ite (KeepsResources.refl t) (t.sampleTrigLine_keepsResources l []))
    allLines s

theorem State.endFieldSide_keepsResources (s : State) : KeepsResources s s.endFieldSide := by
  have axes := KeepsResources.trans _ _ _ s.takeMarkPulseEnd_keepsResources (State.sampleAxesLeft_keepsResources _)
  have lines := KeepsResources.trans _ _ _ axes (State.sampleLinesLeft_keepsResources _)
  have bursts := KeepsResources.trans _ _ _ lines
    (KeepsResources.foldl _ State.takeBurstStep_keepsResources allChannels _)
  have gates := KeepsResources.trans _ _ _ bursts
    (KeepsResources.foldl _ State.takeGatePulseEnd_keepsResources allGates _)
  exact KeepsResources.trans _ _ _ gates (State.arrive_keepsResources _ _ _)

theorem State.endPorts_keepsResources (s : State) : KeepsResources s s.endPorts := by
  have expired := KeepsResources.foldl _ State.takeExpiry_keepsResources allPorts s
  have taken := KeepsResources.trans _ _ _ expired (State.takeNextRequest_keepsResources _)
  have last := KeepsResources.trans _ _ _ taken (KeepsResources.foldl _ State.expireLast_keepsResources allPorts _)
  exact KeepsResources.trans _ _ _ last (State.takeNextRequest_keepsResources _)

theorem State.sampleMarkLeft_keepsResources (s : State) : KeepsResources s s.sampleMarkLeft :=
  KeepsResources.ite (s.sampleMark_keepsResources []) (KeepsResources.refl s)

theorem State.finishTick_keepsResources (s : State) : KeepsResources s s.finishTick := by
  have ports := KeepsResources.trans _ _ _ s.endFieldSide_keepsResources (State.endPorts_keepsResources _)
  have sampled := KeepsResources.trans _ _ _ ports (State.sampleMarkLeft_keepsResources _)
  exact KeepsResources.trans _ _ _ sampled (State.arrive_keepsResources _ _ _)

/-- A gate whose pulse counts keeps its mode and its output (R112). -/
theorem Gate.tick_mode_output (x : Gate) : x.tick.mode = x.mode ∧ x.tick.output = x.output := by
  unfold Gate.tick
  split
  · exact ⟨rfl, rfl⟩
  · split <;> exact ⟨rfl, rfl⟩

/-- The countdowns of a new tick move no resource out of its park (R54, R112). -/
theorem State.beginTick_keepsResources (s : State) : KeepsResources s s.beginTick := by
  refine .of_units s.beginTick_claims (fun c hc => ?_) (fun c _ hc => ?_) (fun _ _ => id) (fun g _ hg => ?_) fun _ => id
  · rw [s.beginTick_channel]
    exact (Channel.tick_kept c _).ok hc
  · rw [State.isParked, s.beginTick_channel]
    exact (Channel.tick_kept c _).disarmed hc
  · obtain ⟨hmode, houtput⟩ := (s.gate g).tick_mode_output
    rw [State.isParked, s.beginTick_gate, hmode, houtput]
    exact hg

/-! ### The step -/

/-- A happening that keeps the resources, and then brings captures to the log. -/
theorem KeepsResources.reachLog {s t : State} (h : KeepsResources s t) (order : LogOrder) :
    KeepsResources s (t.reachLog order) := trans _ _ _ h (t.arrive_keepsResources _ _)

/-- A happening that is no request keeps the resources. -/
theorem exec_keepsResources_of_happening {c : Instr} {s t : State} (hc : requestOf c = none) (ht : exec c s = .next t) :
    KeepsResources s t := by
  cases c with
  | pinReset => cases ht; exact s.pinReset_keepsResources
  | portUnblock p => cases ht; exact (s.unblock_only p).keepsResources
  | transactionBegin p => cases ht; exact (s.beginTransaction_only p).keepsResources
  | statusByteShifted p received => cases ht; exact (s.showStatus_only p received).keepsResources
  | responseDelivered p received => cases ht; exact (s.deliverResponse_only p received).keepsResources
  | transactionEnd p received => cases ht; exact s.endTransaction_keepsResources p received
  | sessionExpiry p => cases ht; exact s.takeExpiry_keepsResources p
  | axisLevelChange n input => cases ht; exact (s.showAxis_keepsResources n input).reachLog _
  | gatePulseEnd g => cases ht; exact s.takeGatePulseEnd_keepsResources g
  | trigLevelChange l raw channels => cases ht; exact (s.showTrigLine_keepsResources l raw _).reachLog _
  | burstStep step => cases ht; exact (s.takeBurstStep_keepsResources step.channel).reachLog _
  | markPulseEnd => cases ht; exact s.takeMarkPulseEnd_keepsResources
  | recognisedEdge events log => cases ht; exact (s.takeRecognisedEdge_keepsResources events).reachLog _
  | recognizerRearm => cases ht; exact s.takeRearm_keepsResources
  | markLineChange outside => cases ht; exact s.setMark_keepsResources _
  | tickCountAdvance =>
    have he : s.finishTick.beginTick = t := Host.Outcome.next.inj ht
    rw [← he]
    exact KeepsResources.trans _ _ _ s.finishTick_keepsResources (State.beginTick_keepsResources _)
  | _ => cases hc

theorem exec_keepsResources {c : Instr} {s t : State} (ht : exec c s = .next t) : KeepsResources s t := by
  cases hc : requestOf c with
  | none => exact exec_keepsResources_of_happening hc ht
  | some request =>
    rcases exec_request_cases hc s with he | he <;> rw [he] at ht <;> cases ht
    · exact KeepsResources.refl s
    · exact s.takeNextRequest_keepsResources

theorem step_keepsResources {s t : State} (ht : step s = .next t) : KeepsResources s t := by
  unfold step at ht
  split at ht
  · cases ht
    exact KeepsResources.refl s
  · next c rest _ =>
    have front : KeepsResources s { s with pending := rest } := .of_others rfl
    exact KeepsResources.trans _ _ _ front (exec_keepsResources ht)

/-- Settles O7: every part of a step moves each channel as its states allow. -/
theorem stepKeepsChannelsInTheirStates : Obligations.StepKeepsChannelsInTheirStates :=
  fun _ _ h ht => (step_keepsResources ht).channelsOk h

/-- Settles O15: only a request of its owner takes a resource out of its park, and a resource that loses its owner is parked in the
same happening. -/
theorem stepKeepsUnownedResourcesParked : Obligations.StepKeepsUnownedResourcesParked :=
  fun _ _ h ht => (step_keepsResources ht).unownedParked h

end Sys2Proof.Machine

/-! ## The line filter (O41) -/

namespace Sys2Proof.Machine

/-- The first sample after pin reset takes the raw level (R45). -/
theorem FilteredLine.sample_of_first {l : FilteredLine} (h : l.primed = false) (F : Nat) :
    l.sample F = { l with level := l.raw, run := 0, primed := true } := by
  simp [FilteredLine.sample, h]

/-- A sample that shows the filtered level forgets the samples counted (R45). -/
theorem FilteredLine.sample_of_same {l : FilteredLine} (h : l.primed = true) (hl : l.raw = l.level) (F : Nat) :
    l.sample F = { l with run := 0 } := by
  simp [FilteredLine.sample, h, hl]

/-- A sample of another level is counted, or accepted after `F` of them (R45). -/
theorem FilteredLine.sample_of_other {l : FilteredLine} (h : l.primed = true) (hl : l.raw ≠ l.level) (F : Nat) :
    l.sample F = if F ≤ l.run then { l with level := l.raw, run := 0 } else { l with run := l.run + 1 } := by
  simp [FilteredLine.sample, h, hl]

/-- Up to `F` samples in a row of another level are counted. -/
theorem FilteredLine.iterate_sample {l : FilteredLine} {F k : Nat} (h : l.primed = true) (hl : l.raw ≠ l.level) (hr : l.run = 0)
    (hk : k ≤ F) : Nat.iterate (fun x => FilteredLine.sample x F) k l = { l with run := k } := by
  induction k with
  | zero => exact congrArg (fun r => { l with run := r }) hr
  | succ k ih =>
    rw [Function.iterate_succ_apply', ih (by omega),
      FilteredLine.sample_of_other (l := { l with run := k }) h hl, if_neg (Nat.not_le.mpr hk)]

/-- Settles O41: the samples are counted one by one up to `F`, and the next one is accepted. -/
theorem filterAcceptsAtSampleFPlusOne : Obligations.FilterAcceptsAtSampleFPlusOne := by
  refine ⟨fun l F k h hl hr => ⟨fun hk => ?_, ?_⟩, fun l F h hl => FilteredLine.sample_of_same h hl F,
    fun l F h hl => FilteredLine.sample_of_other h hl F, fun l F h => FilteredLine.sample_of_first h F⟩
  · rw [FilteredLine.iterate_sample h hl hr hk]
  · rw [Function.iterate_succ_apply', FilteredLine.iterate_sample h hl hr le_rfl,
      FilteredLine.sample_of_other (l := { l with run := F }) h hl, if_pos le_rfl]

end Sys2Proof.Machine

/-! ## TRIG_STATUS, CMP_STATUS and GATE_STATUS (O46) -/

namespace Sys2Proof.Machine

/-- A request whose payload is a number is refused out of range, and otherwise answered with its report alone (R61, R103, R111). -/
theorem report_answered {n : Nat} [NeZero n] {s : State} {p : PortId} {code tag i : Byte} {serve : Server}
    {report : Fin n → List Byte} (hn : s.nextRequest = some (p, { command := code, tag := tag, payload := [i] }))
    (hc : code ≠ codeTimeRead)
    (he : serve p [i] (s.taken p) = (idField n [i] 0 >>= fun k => .ok (report k, s.taken p))) :
    let t := executorTakes p { command := code, tag := tag, payload := [i] } serve s
    if n ≤ i.toNat then s.refused p code tag .outOfRange t
    else s.onlyAnswered p { command := code, tag := tag, result := .ok, payload := report (Fin.ofNat n i.toNat) } t := by
  rw [idField_eq, ite_error_bind, ok_bind] at he
  exact refused_ite hn he fun _ server => onlyAnswered_of_ok hn hc server

/-- The payload of CMP_STATUS, field by field (R187). -/
theorem Entry.statusBytes_eq (x : Entry) :
    x.statusBytes =
      [byteOfNat x.axis.val, x.kind.code] ++ bytesOfCount x.a ++ bytesOfCount x.b ++
        [byteOfFlag x.event, byteOfFlag x.markFlag, byteOfFlag x.enabled, byteOfFlag x.met, byteOfNat x.hits] ++
        (match x.lastHit with
          | none => [0, 0, 0, 0, 0, 0, 0, 0]
          | some h => [1] ++ bytesOfNat 6 h.tick.toNat ++ [h.epoch]) ++ [byteOfNat x.suppressed] := by
  unfold Entry.statusBytes lastHitBytes Stamp.bytes
  cases x.lastHit <;> simp only [List.append_assoc, List.cons_append, List.nil_append]

/-- The pin of a gate is high exactly when it is ACTIVE under NORMAL or INACTIVE under INVERTED (R106). -/
theorem Gate.levelCode_pin (x : Gate) :
    levelCode x.pin =
      if (x.polarity = .normal ∧ x.output = .active) ∨ (x.polarity = .inverted ∧ x.output = .inactive) then 1 else 0 := by
  unfold Gate.pin
  cases x.polarity <;> cases x.output <;> rfl

/-- Settles O46: each report field by field, and the codes by their definitions. -/
theorem statusRequestsReportAndChangeNothing : Obligations.StatusRequestsReportAndChangeNothing := by
  refine ⟨fun s p tag i ses hs => ⟨fun hn => ⟨_, rfl, ?_⟩, fun hn => ⟨_, rfl, ?_⟩, fun hn => ⟨_, rfl, ?_⟩⟩, rfl, rfl,
    rfl, fun _ _ _ => ⟨rfl, rfl⟩, rfl, rfl, rfl, rfl, rfl, rfl, rfl, rfl, rfl, rfl, rfl, rfl⟩
  · exact report_answered (report := fun c => (s.channel c).statusBytes) hn (by decide)
      (sessionRequest_of_some (s := s.taken p) (len := 1) (payload := [i]) hs rfl)
  · have answered := report_answered (report := fun e => (s.entry e).statusBytes) hn (by decide)
      (sessionRequest_of_some (body := cmpStatusBody) (s := s.taken p) (len := 1) (payload := [i]) hs rfl)
    simp only [Entry.statusBytes_eq] at answered
    exact answered
  · have answered := report_answered (report := fun g => (s.gate g).statusBytes) hn (by decide)
      (sessionRequest_of_some (body := gateStatusBody) (s := s.taken p) (len := 1) (payload := [i]) hs rfl)
    simp only [Gate.statusBytes, Gate.levelCode_pin] at answered
    exact answered

end Sys2Proof.Machine

/-! ## TRIG_ARM and TRIG_DISARM (O51) -/

namespace Sys2Proof.Machine

/-- TRIG_ARM on a port with a session: its checks in order, then the channel armed (R48). -/
theorem trigArmServer_eq {s : State} {p : PortId} {ses : Session} (hs : s.session p = some ses) (i : Byte) :
    trigArmServer p [i] s =
      let c : ChannelId := Fin.ofNat 8 i.toNat
      let x := s.channel c
      if 7 < i.toNat then .error .outOfRange
      else if s.owner (.channel c) ≠ some p then .error .notOwner
      else if x.state ≠ .disarmed ∧ x.state ≠ .spent then .error .wrongState
      else .ok ([x.arm.state.code], s.setChannel c x.arm) := by
  rw [trigArmServer, sessionRequest_of_some (len := 1) (payload := [i]) hs rfl, trigArmBody, idField_eq, ite_error_bind,
    ok_bind, requireOwner_bind, require_bind]
  simp only [not_or]
  rfl

/-- TRIG_DISARM on a port with a session: its checks in order, then the channel taken to DISARMED (R56). -/
theorem trigDisarmServer_eq {s : State} {p : PortId} {ses : Session} (hs : s.session p = some ses) (i : Byte) :
    trigDisarmServer p [i] s =
      let c : ChannelId := Fin.ofNat 8 i.toNat
      let x := s.channel c
      let t := s.setChannel c x.disarmed
      if 7 < i.toNat then .error .outOfRange
      else if s.owner (.channel c) ≠ some p then .error .notOwner
      else .ok ([x.state.code, byteOfNat x.remaining],
        if x.state = .bursting then t.raiseToOwner (.channel c) (.burstEnd c true) else t) := by
  rw [trigDisarmServer, sessionRequest_of_some (len := 1) (payload := [i]) hs rfl, trigDisarmBody, idField_eq,
    ite_error_bind, ok_bind, requireOwner_bind]
  rfl

/-- An event that is raised to the owner of a resource in one case alone changes the sessions alone. -/
theorem State.raiseToOwner_if_only (s : State) (b : Prop) [Decidable b] (r : Resource) (ev : Event) :
    OnlySessions s (if b then s.raiseToOwner r ev else s) := by
  split
  · exact s.raiseToOwner_only r ev
  · exact OnlySessions.refl s

/-- It is filed, in that case, in the session of the owner (R152). -/
theorem State.raiseToOwner_if_session {s : State} {r : Resource} {p : PortId} {ses : Session} (ho : s.owner r = some p)
    (hs : s.session p = some ses) (b : Prop) [Decidable b] (ev : Event) (q : PortId) :
    (if b then s.raiseToOwner r ev else s).session q =
      if q = p then some (if b then ses.filed ev else ses) else s.session q := by
  by_cases hq : q = p
  · subst hq
    split <;> simp [State.raiseToOwner_session, ho, hs]
  · split <;> simp [State.raiseToOwner_session, ho, hq, eq_comm (a := p)]

/-- Settles O51: the checks one by one, then the channel armed, or taken to DISARMED with BURST_END filed for a cut burst. -/
theorem trigArmAndDisarmMoveTheChannel : Obligations.TrigArmAndDisarmMoveTheChannel := by
  intro s p tag i ses hs
  refine ⟨fun hn => ⟨_, rfl, ?_⟩, fun hn => ⟨_, rfl, ?_⟩⟩
  · refine refused_ite hn (trigArmServer_eq (s := s.taken p) hs i) fun _ server => ?_
    refine refused_ite hn server fun _ server => refused_ite hn server fun _ server => ?_
    generalize (Fin.ofNat 8 i.toNat : ChannelId) = c at server ⊢
    refine ⟨answered_of_ok hn (by decide) server rfl rfl, ?_⟩
    rw [executorTakes_of_ok hn server]
    exact ⟨State.setChannel_channel_same _ c _, fun d hd => State.setChannel_channel_ne _ c _ hd, rfl⟩
  · refine refused_ite hn (trigDisarmServer_eq (s := s.taken p) hs i) fun _ server => ?_
    refine refused_ite hn server fun howner server => ?_
    generalize (Fin.ofNat 8 i.toNat : ChannelId) = c at server howner ⊢
    obtain ⟨u, server, told, session⟩ : ∃ u,
        trigDisarmServer p [i] (s.taken p) = .ok ([(s.channel c).state.code, byteOfNat (s.channel c).remaining], u) ∧
          OnlySessions ((s.taken p).setChannel c (s.channel c).disarmed) u ∧
          ∀ q, u.session q =
            if q = p then some (if (s.channel c).state = .bursting then ses.filed (.burstEnd c true) else ses)
            else s.session q :=
      ⟨_, server, State.raiseToOwner_if_only _ _ _ _,
        State.raiseToOwner_if_session (s := (s.taken p).setChannel c _) (not_not.mp howner) hs _ _⟩
    refine ⟨answered_of_ok hn (by decide) server (by rw [told]; rfl) (by rw [told]; rfl), ?_⟩
    rw [executorTakes_of_ok hn server]
    refine ⟨(told.channel c).trans (State.setChannel_channel_same _ c _),
      fun d hd => (told.channel d).trans (State.setChannel_channel_ne _ c _ hd), (session p).trans (if_pos rfl),
      fun q hq => (session q).trans (if_neg hq), ?_⟩
    rw [State.deposit_eq, told]
    rfl

end Sys2Proof.Machine

/-! ## TRIG_SETUP and TRIG_LINE_FILTER (O50) -/

namespace Sys2Proof.Machine

/-! ### The fields of TRIG_SETUP (R47, R177, R178) -/

/-- A check that something does not hold. -/
theorem require_not_bind {α : Type} (b : Bool) (code : ResultCode) (k : Unit → Checked α) :
    (require (!b) code >>= k) = if b = true then .error code else k () := by
  cases b <;> rfl

/-- A source is a kind from 0 to 4 and, where the kind has numbers, one in its range (R47, R178). -/
theorem sourceField_eq (payload : List Byte) (off : Nat) :
    sourceField payload off =
      let kind := byteAt payload off
      let number := byteAt payload (off + 1)
      if 4 < kind.toNat then .error .badValue
      else if (kind = 0 ∧ 7 < number.toNat) ∨ (kind = 1 ∧ 5 < number.toNat) ∨ (kind = 3 ∧ 23 < number.toNat) then
        .error .outOfRange
      else .ok (sourceOfBytes kind number) := by
  unfold sourceField sourceOfBytes
  dsimp only
  simp only [idField_eq]
  generalize byteAt payload off = kind
  generalize byteAt payload (off + 1) = number
  have map_ite : ∀ {α : Type} (b : Prop) [Decidable b] (f : α → Source) (v : α),
      Except.map f (if b then .error ResultCode.outOfRange else .ok v) = if b then .error .outOfRange else .ok (f v) := by
    intro α b _ f v
    split <;> rfl
  simp only [map_ite]
  by_cases h0 : kind = 0
  · subst h0; simp [Nat.lt_iff_add_one_le]
  by_cases h1 : kind = 1
  · subst h1; simp [Nat.lt_iff_add_one_le]
  by_cases h2 : kind = 2
  · subst h2; simp
  by_cases h3 : kind = 3
  · subst h3; simp [Nat.lt_iff_add_one_le]
  by_cases h4 : kind = 4
  · subst h4; simp
  have hk : 4 < kind.toNat := by bv_omega
  simp only [h0, h1, h2, h3, h4, hk, if_true, if_false]

/-- An edge is a code from 0 to 2 (R178). -/
theorem edgeField_eq (payload : List Byte) (off : Nat) :
    codeField edge? payload off =
      if 2 < (byteAt payload off).toNat then .error .badValue
      else .ok (if byteAt payload off = 0 then .rising else if byteAt payload off = 1 then .falling else .both) := by
  unfold codeField edge?
  generalize byteAt payload off = b
  by_cases h0 : b = 0
  · subst h0; rfl
  · by_cases h1 : b = 1
    · subst h1; rfl
    · by_cases h2 : b = 2
      · subst h2; rfl
      · have hb : 2 < b.toNat := by bv_omega
        rw [if_neg h0, if_neg h1, if_neg h2, if_pos hb]

/-- An arm mode is 0 or 1 (R178). -/
theorem armModeField_eq (payload : List Byte) (off : Nat) :
    codeField armMode? payload off =
      if 1 < (byteAt payload off).toNat then .error .badValue
      else .ok (if byteAt payload off = 0 then .once else .every) := by
  unfold codeField armMode?
  generalize byteAt payload off = b
  by_cases h0 : b = 0
  · subst h0; rfl
  · by_cases h1 : b = 1
    · subst h1; rfl
    · have hb : 1 < b.toNat := by bv_omega
      rw [if_neg h0, if_neg h1, if_pos hb]

/-- The configuration that eleven payload bytes give, when they are in range (R47). -/
def configOfBytes (kind number edge axes mode burst i1 i0 prereqs notify : Byte) : ChannelConfig :=
  { source := sourceOfBytes kind number, edge := if edge = 0 then .rising else if edge = 1 then .falling else .both
    axes := BitVec.ofNat 6 axes.toNat, mode := if mode = 0 then .once else .every, burstCount := burst.toNat
    interval := i1.toNat * 256 + i0.toNat, prereqs := prereqs, notify := decide (notify = 1) }

/-- The fields of TRIG_SETUP, in the order of R47. -/
theorem channelConfigFields_eq (c : ChannelId) (i kind number edge axes mode burst i1 i0 prereqs notify : Byte) :
    channelConfigFields [i, kind, number, edge, axes, mode, burst, i1, i0, prereqs, notify] c =
      if 4 < kind.toNat then .error .badValue
      else if (kind = 0 ∧ 7 < number.toNat) ∨ (kind = 1 ∧ 5 < number.toNat) ∨ (kind = 3 ∧ 23 < number.toNat) then
        .error .outOfRange
      else if 2 < edge.toNat ∨ 63 < axes.toNat ∨ 1 < mode.toNat then .error .badValue
      else if burst = 0 ∨ 127 < burst.toNat ∨ (i1 = 0 ∧ i0 = 0) then .error .outOfRange
      else if prereqs.getLsbD c = true ∨ 1 < notify.toNat then .error .badValue
      else .ok (configOfBytes kind number edge axes mode burst i1 i0 prereqs notify) := by
  unfold channelConfigFields
  generalize hpayload : [i, kind, number, edge, axes, mode, burst, i1, i0, prereqs, notify] = payload
  have haxes : natAt payload 4 1 = axes.toNat := natAt_one _ _ _ (by rw [← hpayload]; rfl)
  have hburst : natAt payload 6 1 = burst.toNat := natAt_one _ _ _ (by rw [← hpayload]; rfl)
  have hinterval : natAt payload 7 2 = i1.toNat * 256 + i0.toNat := by rw [← hpayload]; simp [natAt, natOfBytes]
  have hprereqs : natAt payload 9 1 = prereqs.toNat := natAt_one _ _ _ (by rw [← hpayload]; rfl)
  have burst_range : ¬(1 ≤ burst.toNat ∧ burst.toNat ≤ 127) ↔ burst = 0 ∨ 127 < burst.toNat := by bv_omega
  have interval_range : ¬1 ≤ i1.toNat * 256 + i0.toNat ↔ i1 = 0 ∧ i0 = 0 := by bv_omega
  have prereqs_range : ¬2 ^ 8 ≤ prereqs.toNat := Nat.not_le.mpr prereqs.isLt
  simp only [sourceField_eq, ite_error_bind, ok_bind, edgeField_eq, armModeField_eq, setField_eq, flagField_eq, require_bind,
    require_not_bind, haxes, hburst, hinterval, hprereqs, burst_range, interval_range, prereqs_range, if_false,
    BitVec.ofNat_toNat, BitVec.setWidth_eq, ite_or]
  subst hpayload
  rfl

/-- TRIG_SETUP on a port with a session: its checks in the order of R47, then the captures of the channel at the log and the
configuration replaced (R47, R60). -/
theorem trigSetupServer_eq {s : State} {p : PortId} {ses : Session} (hs : s.session p = some ses)
    (i kind number edge axes mode burst i1 i0 prereqs notify : Byte) :
    trigSetupServer p [i, kind, number, edge, axes, mode, burst, i1, i0, prereqs, notify] s =
      let c : ChannelId := Fin.ofNat 8 i.toNat
      let x := s.channel c
      if 7 < i.toNat then .error .outOfRange
      else if 4 < kind.toNat then .error .badValue
      else if (kind = 0 ∧ 7 < number.toNat) ∨ (kind = 1 ∧ 5 < number.toNat) ∨ (kind = 3 ∧ 23 < number.toNat) then
        .error .outOfRange
      else if 2 < edge.toNat ∨ 63 < axes.toNat ∨ 1 < mode.toNat then .error .badValue
      else if burst = 0 ∨ 127 < burst.toNat ∨ (i1 = 0 ∧ i0 = 0) then .error .outOfRange
      else if prereqs.getLsbD i.toNat = true ∨ 1 < notify.toNat then .error .badValue
      else if s.owner (.channel c) ≠ some p then .error .notOwner
      else if x.state ≠ .disarmed ∧ x.state ≠ .spent then .error .wrongState
      else .ok ([], (s.channelReachesLog c).setChannel c
        { x with config := configOfBytes kind number edge axes mode burst i1 i0 prereqs notify, fires := 0, ignored := 0
                 dropped := 0 }) := by
  rw [trigSetupServer, sessionRequest_of_some (len := 11) hs rfl, trigSetupBody, idField_eq, ite_error_bind, ok_bind,
    channelConfigFields_eq]
  simp only [ite_error_bind, ok_bind, requireOwner_bind, require_bind, not_or]
  change (if 7 < i.toNat then _ else _) = _
  split
  · rfl
  · next hi =>
    have hc : ((Fin.ofNat 8 i.toNat : ChannelId) : Nat) = i.toNat := Nat.mod_eq_of_lt (by omega)
    have own : prereqs.getLsbD (Fin.ofNat 8 i.toNat : ChannelId) = prereqs.getLsbD i.toNat := by rw [hc]
    rw [← own]
    rfl

/-! ### The captures of one channel reach the log (R9, R60) -/

/-- A capture that channel `n` has requested. -/
def Capture.requestedBy (n : ChannelId) (c : Capture) : Bool :=
  match c.cause with
  | .trigger m _ => decide (m = n)
  | .mark => false
  | .host _ => false

theorem Capture.requestedBy_iff (n : ChannelId) (c : Capture) :
    c.requestedBy n = true ↔ ∃ k, c.cause = .trigger n k := by
  unfold Capture.requestedBy
  cases c.cause <;> simp

/-- An accepted TRIG_SETUP settles exactly the captures of its channel first (R60). -/
theorem State.channelReachesLog_arrived (s : State) (n : ChannelId) :
    s.arrived (s.underway.filter (Capture.requestedBy n)) (s.underway.filter (fun c => !c.requestedBy n))
      (s.channelReachesLog n) := ⟨List.filter_append_perm _ _, rfl⟩

/-- A capture that another channel, MARK or a host has requested leaves a channel as it is (R14, R59). -/
theorem State.handOver_channel_of_other {s : State} {c : Capture} {d : ChannelId} (h : ∀ k, c.cause ≠ .trigger d k) :
    (s.handOver c).1.channel d = s.channel d := by
  have hc : (s.capture c).1.channel d = s.channel d := by rw [s.capture_only c]; rfl
  rw [State.handOver_eq]
  split
  · next n k hcause =>
    have hdn : d ≠ n := fun e => h k (e ▸ hcause)
    dsimp only
    split
    · rwa [State.setChannel_channel_ne _ _ _ hdn]
    · exact hc
  · exact hc
  · exact hc

/-- So do all of them that reach the log in one happening. -/
theorem State.arrive_channel_of_others {d : ChannelId} (now rest : List Capture) (s : State)
    (h : ∀ c ∈ now, ∀ k, c.cause ≠ .trigger d k) : (s.arrive now rest).channel d = s.channel d := by
  unfold State.arrive
  generalize hu : ({ s with underway := rest } : State) = u
  have hd : u.channel d = s.channel d := by rw [← hu]; rfl
  clear hu
  induction now generalizing u with
  | nil => exact hd
  | cons c now ih =>
    exact ih (fun x hx => h x (List.mem_cons_of_mem c hx)) _
      ((State.handOver_channel_of_other (h c List.mem_cons_self)).trans hd)

/-- What reaches the log, and with what outcome, does not depend on the queues. -/
theorem State.arrive_withQueues (s : State) (ports : Bank Port 4) (executor : Executor) (now rest : List Capture) :
    (s.withQueues ports executor).arrive now rest = (s.arrive now rest).withQueues ports executor :=
  foldl_withQueues { s with underway := rest } ports executor _
    (fun t c => congrArg Prod.fst (t.handOver_withQueues ports executor c)) now

/-! ### TRIG_LINE_FILTER (R46) -/

/-- A session may set the filter of a line when no other session owns a channel with that line as its source (R46). -/
theorem State.mayFilter_eq (s : State) (p : PortId) (l : LineId) :
    s.mayFilter p l =
      decide (¬∃ c : ChannelId, (s.channel c).config.source = .line l ∧ s.owner (.channel c) ≠ none ∧
        s.owner (.channel c) ≠ some p) := by
  rw [Bool.eq_iff_iff, decide_eq_true_iff]
  simp only [State.mayFilter, List.all_eq_true, mem_allChannels, true_imp_iff, State.owns, Bool.or_eq_true,
    Bool.not_eq_true', decide_eq_true_eq, decide_eq_false_iff_not, not_exists, not_and_or, not_not, or_assoc]

/-- TRIG_LINE_FILTER on a port with a session: its checks, then the filter replaced (R46). -/
theorem trigLineFilterServer_eq {s : State} {p : PortId} {ses : Session} (hs : s.session p = some ses) (i filter : Byte) :
    trigLineFilterServer p [i, filter] s =
      let l : LineId := Fin.ofNat 8 i.toNat
      if 7 < i.toNat then .error .outOfRange
      else if ∃ c : ChannelId, (s.channel c).config.source = .line l ∧ s.owner (.channel c) ≠ none ∧
          s.owner (.channel c) ≠ some p then .error .notOwner
      else .ok ([filter], s.setLine l { s.trigLine l with filter := filter.toNat }) := by
  rw [trigLineFilterServer, sessionRequest_of_some (len := 2) hs rfl, trigLineFilterBody, idField_eq, ite_error_bind, ok_bind,
    State.mayFilter_eq, require_bind]
  simp only [not_not]
  rfl

/-- Settles O50: the checks one by one, then the captures of the channel at the log and its configuration replaced; and the
filter of a line replaced. -/
theorem trigSetupAndLineFilterAreChecked : Obligations.TrigSetupAndLineFilterAreChecked := by
  refine ⟨fun s p tag i kind number edge axes mode burst i1 i0 prereqs notify ses hn hs => ⟨_, rfl, ?_⟩,
    fun s p tag i filter ses hn hs => ⟨_, rfl, ?_⟩⟩
  · refine refused_ite hn
      (trigSetupServer_eq (s := s.taken p) hs i kind number edge axes mode burst i1 i0 prereqs notify) fun _ server => ?_
    refine refused_ite hn server fun _ server => refused_ite hn server fun _ server => ?_
    refine refused_ite hn server fun _ server => refused_ite hn server fun _ server => ?_
    refine refused_ite hn server fun _ server => refused_ite hn server fun _ server => ?_
    refine refused_ite hn server fun _ server => ?_
    generalize (Fin.ofNat 8 i.toNat : ChannelId) = c at server ⊢
    have reached : (s.taken p).channelReachesLog c =
        (s.channelReachesLog c).withQueues (s.taken p).ports { last := p, took := true } := by
      rw [s.taken_withQueues]
      exact s.arrive_withQueues _ _ _ _
    rw [reached] at server
    refine ⟨answered_of_ok hn (by decide) server rfl rfl, ?_⟩
    rw [executorTakes_of_ok hn server]
    refine ⟨State.setChannel_channel_same _ c _, fun d hd => ?_, s.channelReachesLog c, _, _,
      s.channelReachesLog_arrived c, fun r hr => ?_, fun r hr k hk => ?_, rfl⟩
    · refine (State.setChannel_channel_ne _ c _ hd).trans ?_
      refine State.arrive_channel_of_others _ _ s fun r hr k hk => ?_
      obtain ⟨k', hk'⟩ := (Capture.requestedBy_iff c r).mp (List.mem_filter.mp hr).2
      rw [hk] at hk'
      cases hk'
      exact hd rfl
    · exact (Capture.requestedBy_iff c r).mp (List.mem_filter.mp hr).2
    · have own := (Capture.requestedBy_iff c r).mpr ⟨k, hk⟩
      simp [List.mem_filter, own] at hr
  · refine refused_ite hn (trigLineFilterServer_eq (s := s.taken p) hs i filter) fun _ server => ?_
    refine refused_ite hn server fun _ server => ?_
    refine ⟨answered_of_ok hn (by decide) server rfl rfl, ?_⟩
    rw [executorTakes_of_ok hn server]
    exact ⟨State.setLine_trigLine_same _ _ _, fun k hk => State.setLine_trigLine_ne _ _ _ hk, rfl⟩

end Sys2Proof.Machine

/-! ## The decoder and the count of an axis (O39, O40) -/

namespace Sys2Proof.Machine

/-! ### The decoder (R72 to R75) -/

/-- What holds at both levels holds at each: a comparison of A and B has sixteen rows, which can be written out. -/
theorem Level.forall_iff {P : Level → Prop} : (∀ l, P l) ↔ P .low ∧ P .high :=
  ⟨fun h => ⟨h .low, h .high⟩, fun ⟨hlow, hhigh⟩ l => match l with | .low => hlow | .high => hhigh⟩

/-- A line has risen when it has changed and is high (R74, R75). -/
theorem changed_high_iff (l0 l : Level) : (decide (l0 ≠ l) && decide (l = .high)) = decide (l0 = .low ∧ l = .high) := by
  cases l0 <;> cases l <;> rfl

/-- QUAD4: a step for each move to a neighbour in the cycle (R73). -/
theorem decodeLevels_quad4 : ∀ a0 b0 a b : Level,
    let d := quadraturePlace a b - quadraturePlace a0 b0
    decodeLevels .quad4 a0 b0 a b =
      (if d = 0 then .nothing else if d = 1 then .step true else if d = 3 then .step false else .phaseError) := by
  simp only [Level.forall_iff]
  decide

/-- QUAD2: the moves of QUAD4 that change A (R73). -/
theorem decodeLevels_quad2 : ∀ a0 b0 a b : Level,
    let d := quadraturePlace a b - quadraturePlace a0 b0
    decodeLevels .quad2 a0 b0 a b =
      (if d = 2 then .phaseError else if a = a0 then .nothing else .step (decide (d = 1))) := by
  simp only [Level.forall_iff]
  decide

/-- QUAD1: the moves of QUAD4 that change A with B low (R73). -/
theorem decodeLevels_quad1 : ∀ a0 b0 a b : Level,
    let d := quadraturePlace a b - quadraturePlace a0 b0
    decodeLevels .quad1 a0 b0 a b =
      (if d = 2 then .phaseError else if a ≠ a0 ∧ b = .low then .step (decide (a = .high)) else .nothing) := by
  simp only [Level.forall_iff]
  decide

theorem decodeLevels_pulseDir (a0 b0 a b : Level) :
    decodeLevels .pulseDir a0 b0 a b = (if a0 = .low ∧ a = .high then .step (decide (b = .low)) else .nothing) := by
  simp only [decodeLevels, changed_high_iff, decide_eq_true_eq]

theorem decodeLevels_upDown (a0 b0 a b : Level) :
    let aRose := a0 = .low ∧ a = .high
    let bRose := b0 = .low ∧ b = .high
    decodeLevels .upDown a0 b0 a b =
      (if aRose ∧ bRose then .phaseError else if aRose then .step true else if bRose then .step false else .nothing) := by
  simp only [decodeLevels, changed_high_iff, Bool.and_eq_true, decide_eq_true_eq]

/-- Settles O39, mode by mode. -/
theorem decoderFollowsTheModes : Obligations.DecoderFollowsTheModes := fun a0 b0 a b =>
  ⟨decodeLevels_quad4 a0 b0 a b, decodeLevels_quad2 a0 b0 a b, decodeLevels_quad1 a0 b0 a b,
    decodeLevels_pulseDir a0 b0 a b, decodeLevels_upDown a0 b0 a b, rfl⟩

/-! ### The count (R77, R78) -/

/-- On a linear axis in range a step is withheld exactly at the limit that it would pass (R77). -/
theorem Axis.stepped_of_linear {x : Axis} (hs : x.span = 0) (hx : x.inRange x.count = true) (up : Bool) :
    x.stepped up =
      if (up = true ∧ x.count = 549755813887) ∨ (up = false ∧ x.count = -549755813888) then none
      else some { x with count := if up then x.count + 1 else x.count - 1 } := by
  unfold Axis.inRange at hx
  rw [if_pos hs] at hx
  obtain ⟨hmin, hmax⟩ := decide_eq_true_eq.mp hx
  unfold Config.linearMin at hmin
  unfold Config.linearMax at hmax
  unfold Axis.stepped Config.linearMin Config.linearMax
  rw [if_pos hs]
  cases up <;> simp only [Bool.false_eq_true, Bool.true_eq_false, false_and, or_false, false_or, true_and, if_true,
    if_false]
  · by_cases h : x.count = -549755813888
    · rw [if_pos h, if_neg (by omega)]
    · rw [if_neg h, if_pos (by omega)]
  · by_cases h : x.count = 549755813887
    · rw [if_pos h, if_neg (by omega)]
    · rw [if_neg h, if_pos (by omega)]

/-- A turns count that goes up or down by one does so modulo 65 536 (R70). -/
theorem turns_step (t : Turns) :
    (65536 : Int) ∣ (t + 1).toInt - t.toInt - 1 ∧ (65536 : Int) ∣ (t - 1).toInt - t.toInt + 1 := by
  rw [BitVec.toInt_add, BitVec.toInt_sub]
  have one : (1 : Turns).toInt = 1 := rfl
  have up := Int.dvd_bmod_sub_self (x := t.toInt + 1) (m := 2 ^ 16)
  have down := Int.dvd_bmod_sub_self (x := t.toInt - 1) (m := 2 ^ 16)
  rw [one]
  omega

/-- On a modulo axis every step is applied: it leaves the count in its range, and moves the position by one (R78). -/
theorem Axis.stepped_of_modulo {x : Axis} (hs : x.span ≠ 0) (hmin : 0 ≤ x.count) (hmax : x.count < x.span) (up : Bool) :
    ∃ y, x.stepped up = some y ∧ y = { x with count := y.count, turns := y.turns } ∧ 0 ≤ y.count ∧ y.count < x.span ∧
      (65536 * (x.span : Int)) ∣
        (y.turns.toInt * x.span + y.count) - (x.turns.toInt * x.span + x.count) - (if up then 1 else -1) := by
  obtain ⟨⟨k, hk⟩, ⟨l, hl⟩⟩ := turns_step x.turns
  unfold Axis.stepped
  rw [if_neg hs]
  cases up <;> simp only [Bool.false_eq_true, if_true, if_false]
  · by_cases h : x.count = 0
    · refine ⟨_, if_pos h, rfl, by dsimp only; omega, by dsimp only; omega, l, ?_⟩
      linear_combination (x.span : Int) * hl - h
    · exact ⟨_, if_neg h, rfl, by dsimp only; omega, by dsimp only; omega, 0, by dsimp only; ring⟩
  · by_cases h : x.count = (x.span : Int) - 1
    · refine ⟨_, if_pos h, rfl, by dsimp only; omega, by dsimp only; omega, k, ?_⟩
      linear_combination (x.span : Int) * hk - h
    · exact ⟨_, if_neg h, rfl, by dsimp only; omega, by dsimp only; omega, 0, by dsimp only; ring⟩

/-- Settles O40. -/
theorem stepsMoveTheCountByOne : Obligations.StepsMoveTheCountByOne := fun _ up =>
  ⟨fun hs hx => Axis.stepped_of_linear hs hx up, fun hs hmin hmax => Axis.stepped_of_modulo hs hmin hmax up⟩

end Sys2Proof.Machine

/-! ## The moves of one axis (R70, R76 to R82) -/

namespace Sys2Proof.Machine

/-! ### Ranges and checks (R70, R79, R81) -/

/-- The counts an axis may take, in numbers (R70). -/
theorem Axis.inRange_eq (x : Axis) (v : Int) :
    x.inRange v = decide (if x.span = 0 then -549755813888 ≤ v ∧ v ≤ 549755813887 else 0 ≤ v ∧ v < x.span) := by
  unfold Axis.inRange
  split <;> rfl

/-- The spans an axis may take at its count, in numbers (R79). -/
theorem spanOk_eq (x : Axis) (span : Nat) :
    spanOk x span =
      decide (¬(span = 1 ∨ 2147483648 < span ∨ (span ≠ 0 ∧ ¬(0 ≤ x.count ∧ x.count < span)))) := by
  unfold spanOk Config.maxSpan
  rw [← Bool.decide_or, ← Bool.decide_and, decide_eq_decide]
  omega

/-! ### What each move leaves in range -/

/-- Invert and a filter value set anew leave an axis in range (R80). -/
theorem Axis.ok.setFilter {x : Axis} (h : x.ok) (invert : Bool) {filter : Nat} (hf : filter ≤ 15) :
    Axis.ok { x with invert := invert, filter := filter } := by
  obtain ⟨hrange, hone, hmax, -, hsample, herrors, hcause, hmode, hover⟩ := h
  exact ⟨hrange, hone, hmax, hf, hsample, herrors, hcause, hmode, hover⟩

/-- Mode OFF takes an axis to OFF without a cause; a counting mode takes it out of OFF, and leaves a fault (R76). -/
theorem Axis.ok.setMode {x : Axis} (h : x.ok) (mode : DecodeMode) : (x.setMode mode).ok := by
  obtain ⟨hrange, hone, hmax, hfilter, hsample, herrors, hcause, hmode, hover⟩ := h
  unfold Axis.setMode
  split
  · next hoff => exact ⟨hrange, hone, hmax, hfilter, hsample, herrors, by simp, by simp [hoff], nofun⟩
  · next hoff =>
    split
    · next hs =>
      have none : x.cause = .none := not_not.mp fun hc => nomatch hs.symm.trans (hcause.mp hc)
      exact ⟨hrange, hone, hmax, hfilter, hsample, herrors, by simp [none], by simp [hoff], hover⟩
    · next hs => exact ⟨hrange, hone, hmax, hfilter, hsample, herrors, hcause, iff_of_false hoff hs, hover⟩

/-- A span that the count fits: an axis at a linear limit takes none but 0 (R77, R79). -/
theorem Axis.ok.setSpan {x : Axis} (h : x.ok) {span : Nat} (hs : spanOk x span = true) : Axis.ok { x with span := span } := by
  obtain ⟨hrange, -, hspan, hfilter, hsample, herrors, hcause, hmode, hover⟩ := h
  unfold Config.maxSpan at hspan
  rw [spanOk_eq, decide_eq_true_eq] at hs
  rw [Axis.inRange_eq, decide_eq_true_eq] at hrange
  refine ⟨?_, by dsimp only; omega, by unfold Config.maxSpan; dsimp only; omega, hfilter, hsample, herrors, hcause, hmode, ?_⟩
  · rw [Axis.inRange_eq, decide_eq_true_eq]
    dsimp only
    split at hrange <;> split <;> omega
  · intro hc
    obtain ⟨-, hlimit⟩ := hover hc
    unfold Config.linearMax Config.linearMin at hlimit
    exact ⟨by dsimp only; omega, hlimit⟩

/-- A count in range set by a host outside FAULTED (R81). -/
theorem Axis.ok.setCount {x : Axis} (h : x.ok) {v : Int} (hv : x.inRange v = true) (hs : x.state ≠ .faulted) :
    (x.setCount v).ok := by
  obtain ⟨-, hone, hmax, hfilter, hsample, herrors, hcause, hmode, -⟩ := h
  have noCause : x.cause = .none := not_not.mp (mt hcause.mp hs)
  exact ⟨hv, hone, hmax, hfilter, hsample, herrors, hcause, hmode, fun hc => nomatch noCause.symm.trans hc⟩

/-- A count in range set by a host in FAULTED, which clears the fault (R82). -/
theorem Axis.ok.clearFault {x : Axis} (h : x.ok) {v : Int} (hv : x.inRange v = true) (hs : x.state = .faulted) :
    Axis.ok { x.setCount v with state := .counting, cause := .none } := by
  obtain ⟨-, hone, hmax, hfilter, hsample, herrors, -, hmode, -⟩ := h
  have counting : x.mode ≠ .off := fun hoff => nomatch hs.symm.trans (hmode.mp hoff)
  exact ⟨hv, hone, hmax, hfilter, hsample, herrors, by simp, iff_of_false counting (by simp), nofun⟩

/-- An axis in COUNTING has a counting mode and no cause (R76). -/
theorem Axis.ok.of_counting {x : Axis} (h : x.ok) (hs : x.state = .counting) : x.mode ≠ .off ∧ x.cause = .none := by
  obtain ⟨-, -, -, -, -, -, hcause, hmode, -⟩ := h
  exact ⟨fun hoff => (nomatch hs.symm.trans (hmode.mp hoff)), not_not.mp fun hc => nomatch hs.symm.trans (hcause.mp hc)⟩

/-- A phase error faults an axis in COUNTING, and is counted up to 255 (R75). -/
theorem Axis.ok.phaseFault {x : Axis} (h : x.ok) (hs : x.state = .counting) :
    Axis.ok { x with phaseErrors := countUp x.phaseErrors, state := .faulted, cause := .phase } := by
  obtain ⟨hmode, -⟩ := h.of_counting hs
  obtain ⟨hrange, hone, hmax, hfilter, hsample, herrors, -, -, -⟩ := h
  exact ⟨hrange, hone, hmax, hfilter, hsample, saturate_le herrors, by simp, iff_of_false hmode (by simp), nofun⟩

/-- A step is withheld on a linear axis at a limit alone (R77, R78). -/
theorem Axis.ok.of_withheld {x : Axis} (h : x.ok) {up : Bool} (hn : x.stepped up = none) :
    x.span = 0 ∧ (x.count = Config.linearMax ∨ x.count = Config.linearMin) := by
  obtain ⟨hrange, -⟩ := h
  by_cases hs : x.span = 0
  · rw [Axis.stepped_of_linear hs hrange, ite_eq_left_iff] at hn
    have limit := not_not.mp fun hc => by cases hn hc
    exact ⟨hs, limit.imp And.right And.right⟩
  · rw [Axis.inRange_eq, decide_eq_true_eq, if_neg hs] at hrange
    obtain ⟨y, hy, -⟩ := Axis.stepped_of_modulo hs hrange.1 hrange.2 up
    rw [hy] at hn
    cases hn

/-- A step that would pass a linear limit faults an axis in COUNTING, which stays at the limit (R77). -/
theorem Axis.ok.overrangeFault {x : Axis} (h : x.ok) (hs : x.state = .counting) {up : Bool} (hn : x.stepped up = none) :
    Axis.ok { x with state := .faulted, cause := .overrange } := by
  obtain ⟨hmode, -⟩ := h.of_counting hs
  have limit := h.of_withheld hn
  obtain ⟨hrange, hone, hmax, hfilter, hsample, herrors, -, -, -⟩ := h
  exact ⟨hrange, hone, hmax, hfilter, hsample, herrors, by simp, iff_of_false hmode (by simp), fun _ => limit⟩

/-- A step that is applied leaves the count in range (R77, R78). -/
theorem Axis.ok.stepped {x y : Axis} (h : x.ok) (hs : x.state = .counting) {up : Bool} (hy : x.stepped up = some y) : y.ok := by
  obtain ⟨-, noCause⟩ := h.of_counting hs
  obtain ⟨hrange, hone, hmax, hfilter, hsample, herrors, hcause, hmode, -⟩ := h
  have inRange : x.inRange y.count = true := by
    by_cases hspan : x.span = 0
    · rw [Axis.stepped_of_linear hspan hrange] at hy
      split at hy
      · cases hy
      · next hlimit =>
        cases hy
        rw [Axis.inRange_eq, decide_eq_true_eq, if_pos hspan] at hrange ⊢
        cases up <;> simp at hlimit ⊢ <;> omega
    · rw [Axis.inRange_eq, decide_eq_true_eq, if_neg hspan] at hrange ⊢
      obtain ⟨z, hz, -, hmin, hlt, -⟩ := Axis.stepped_of_modulo hspan hrange.1 hrange.2 up
      rw [hy] at hz
      cases hz
      exact ⟨hmin, hlt⟩
  rw [Axis.stepped_eq hy]
  exact ⟨inRange, hone, hmax, hfilter, hsample, herrors, hcause, hmode, fun hc => nomatch noCause.symm.trans hc⟩

/-- DEVICE_RESET sets the values of R91, which are in range. -/
theorem Axis.ok.deviceReset {x : Axis} (h : x.ok) : x.deviceReset.ok := by
  obtain ⟨-, -, -, -, hsample, -, -, -, -⟩ := h
  obtain ⟨hrange, hone, hmax, hfilter, -, herrors, hcause, hmode, hover⟩ := Axis.reset_ok
  exact ⟨hrange, hone, hmax, hfilter, hsample, herrors, hcause, hmode, hover⟩

/-- A new tick judges by the filter value that stands (R89). -/
theorem Axis.ok.tick {x : Axis} (h : x.ok) : x.tick.ok := by
  obtain ⟨hrange, hone, hmax, hfilter, -, herrors, hcause, hmode, hover⟩ := h
  exact ⟨hrange, hone, hmax, hfilter, hfilter, herrors, hcause, hmode, hover⟩

end Sys2Proof.Machine

/-! ## What a happening may do to the axes (O8) -/

namespace Sys2Proof.Machine

/-- From `s` to `t` no axis has left its ranges (R70, R76, R77). -/
def KeepsAxes (s t : State) : Prop := ∀ n, (s.axis n).ok → (t.axis n).ok

namespace KeepsAxes

@[refl] theorem refl (s : State) : KeepsAxes s s := fun _ => id

theorem trans (s t u : State) (h : KeepsAxes s t) (k : KeepsAxes t u) : KeepsAxes s u := fun n => k n ∘ h n

/-- A fold of operations that keep the axes in range keeps them so. -/
theorem foldl {α : Type} (f : State → α → State) (h : ∀ t x, KeepsAxes t (f t x)) (l : List α) (s : State) :
    KeepsAxes s (l.foldl f s) := foldl_reaches KeepsAxes refl trans f h l s

/-- A choice between operations that keep the axes in range keeps them so. -/
theorem ite {b : Prop} [Decidable b] {s t u : State} (h : KeepsAxes s t) (k : KeepsAxes s u) :
    KeepsAxes s (if b then t else u) := by
  split
  · exact h
  · exact k

/-- An operation that leaves the axes as they are. -/
theorem of_axes {s t : State} (h : t.axes = s.axes) : KeepsAxes s t := fun n hn => by
  rwa [State.axis, h]

end KeepsAxes

/-! ### The operations that leave the axes as they are -/

theorem OnlySessions.axes {s t : State} (h : OnlySessions s t) : t.axes = s.axes := by rw [h]
theorem OnlyLog.axes {s t : State} (h : OnlyLog s t) : t.axes = s.axes := by rw [h]
theorem OnlyGates.axes {s t : State} (h : OnlyGates s t) : t.axes = s.axes := by rw [h]
theorem OnlyMet.axes {s t : State} (h : OnlyMet s t) : t.axes = s.axes := by rw [h]
theorem OnlyEvents.axes {s t : State} (h : OnlyEvents s t) : t.axes = s.axes := by rw [h]
theorem OnlyFiring.axes {s t : State} (h : OnlyFiring s t) : t.axes = s.axes := by rw [h]
theorem OnlyOffer.axes {s t : State} (h : OnlyOffer s t) : t.axes = s.axes := by rw [h]
theorem OnlyPark.axes {s t : State} (h : OnlyPark s t) : t.axes = s.axes := by rw [h]
theorem OnlyLines.axes {s t : State} (h : OnlyLines s t) : t.axes = s.axes := by rw [h]
theorem OnlyEdge.axes {s t : State} (h : OnlyEdge s t) : t.axes = s.axes := by rw [h]
theorem OnlyPorts.axes {s t : State} (h : OnlyPorts s t) : t.axes = s.axes := by rw [h]

theorem State.closeSession_axes (s : State) (p : PortId) : (s.closeSession p).axes = s.axes := by
  rw [s.closeSession_eq, State.setSession_axes, (s.closeSession_fold_only p).axes]

theorem State.expire_axes (s : State) (p : PortId) : (s.expire p).axes = s.axes := by
  have closed := s.closeSession_axes p
  unfold State.expire
  generalize s.closeSession p = t at closed ⊢
  exact closed

theorem State.takeExpiry_axes (s : State) (p : PortId) : (s.takeExpiry p).axes = s.axes := by
  unfold State.takeExpiry
  split
  · exact s.expire_axes p
  · rfl

theorem State.expireLast_axes (s : State) (p : PortId) : (s.expireLast p).axes = s.axes := by
  unfold State.expireLast
  split
  · exact s.expire_axes p
  · rfl

theorem State.closeAll_axes (s : State) : s.closeAll.axes = s.axes :=
  foldl_keeps State.axes _ (fun t p => by split <;> [exact t.closeSession_axes p; rfl]) allPorts s

theorem State.endTransaction_axes (s : State) (p : PortId) (received : List Byte) :
    (s.endTransaction p received).axes = s.axes := by
  have before : (s.beforeFrame p).axes = s.axes := by
    unfold State.beforeFrame
    split
    · exact s.expire_axes p
    · rfl
  unfold State.endTransaction
  dsimp only
  split
  · rfl
  · rfl
  · split
    · rfl
    · rfl
    · exact (State.reloadTimer_only _ p).axes.trans before

/-! ### The updates of an axis (R72, R75 to R78) -/

/-- An axis set to one that is in range whenever the axis was. -/
theorem State.setAxis_keepsAxes {s : State} {n : AxisId} {x : Axis} (h : (s.axis n).ok → x.ok) :
    KeepsAxes s (s.setAxis n x) := fun k hk => by
  rw [State.setAxis_axis]
  split
  · next e => subst e; exact h hk
  · exact hk

/-- An axis that then offers its count. -/
theorem State.setAxis_offer_keepsAxes {s : State} {n : AxisId} {x : Axis} (h : (s.axis n).ok → x.ok) (kind : OfferKind)
    (entries : List EntryId) : KeepsAxes s ((s.setAxis n x).offer n kind entries) :=
  KeepsAxes.trans _ _ _ (State.setAxis_keepsAxes h) (.of_axes (State.offer_only _ n kind entries).axes)

theorem State.faultAxis_keepsAxes {s : State} {n : AxisId} {x : Axis} {cause : FaultCause}
    (h : (s.axis n).ok → Axis.ok { x with state := .faulted, cause := cause }) : KeepsAxes s (s.faultAxis n x cause) :=
  KeepsAxes.trans _ _ _ (State.setAxis_keepsAxes h) (.of_axes (State.raiseToOwner_only _ _ _).axes)

/-- A decoded comparison moves an axis in COUNTING alone: by a step in range, or into FAULTED (R72, R75 to R78). -/
theorem State.applyDecoded_keepsAxes (s : State) (n : AxisId) (d : Decoded) (entries : List EntryId)
    (channels : List ChannelId) : KeepsAxes s (s.applyDecoded n d entries channels) := by
  unfold State.applyDecoded
  dsimp only
  split
  · exact KeepsAxes.refl s
  · next hs =>
    have counting := not_not.mp hs
    split
    · exact KeepsAxes.refl s
    · exact State.faultAxis_keepsAxes fun h => h.phaseFault counting
    · split
      · next y hy =>
        exact KeepsAxes.trans _ _ _ (State.setAxis_offer_keepsAxes (fun h => h.stepped counting hy) .step entries)
          (.of_axes (State.triggerEvents_only _ _).axes)
      · next hn => exact State.faultAxis_keepsAxes fun h => h.overrangeFault counting hn

theorem State.sampleAB_keepsAxes (s : State) (n : AxisId) (entries : List EntryId) (channels : List ChannelId) :
    KeepsAxes s (s.sampleAB n entries channels) := by
  unfold State.sampleAB
  dsimp only
  refine KeepsAxes.trans _ _ _ ?_ (State.applyDecoded_keepsAxes _ n _ entries channels)
  exact State.setAxis_keepsAxes id

theorem State.sampleZ_keepsAxes (s : State) (n : AxisId) (channels : List ChannelId) :
    KeepsAxes s (s.sampleZ n channels) := by
  have sampled : KeepsAxes s (s.setAxis n { s.axis n with z := (s.axis n).z.sample (s.axis n).sampleFilter, sampledZ := true }) :=
    State.setAxis_keepsAxes id
  unfold State.sampleZ
  dsimp only
  exact KeepsAxes.ite (KeepsAxes.trans _ _ _ sampled (.of_axes (State.triggerEvents_only _ _).axes)) sampled

theorem State.showAxis_keepsAxes (s : State) (n : AxisId) (input : AxisInput) : KeepsAxes s (s.showAxis n input) := by
  have show_keeps : ∀ (t : State) (a b : Level), KeepsAxes t (t.setAxis n ((t.axis n).show a b)) :=
    fun t a b => State.setAxis_keepsAxes id
  cases input with
  | ab a b entries channels =>
    have sampled := s.sampleAB_keepsAxes n entries channels.events
    exact KeepsAxes.ite (show_keeps s a b) (KeepsAxes.ite (KeepsAxes.trans _ _ _ sampled (show_keeps _ a b))
      (KeepsAxes.trans _ _ _ (show_keeps s a b) (State.sampleAB_keepsAxes _ n _ _)))
  | z z channels =>
    have shown : KeepsAxes s (s.setAxis n { s.axis n with z := { (s.axis n).z with raw := z } }) := State.setAxis_keepsAxes id
    exact KeepsAxes.ite shown (KeepsAxes.trans _ _ _ shown (State.sampleZ_keepsAxes _ n _))

theorem State.resetBlocks_keepsAxes (s : State) : KeepsAxes s s.resetBlocks := fun n h => by
  rw [State.axis, State.resetBlocks, Bank.read_mapAll]
  exact h.deviceReset

theorem State.pinReset_keepsAxes (s : State) : KeepsAxes s s.pinReset := fun n _ => by
  rw [s.pinReset_axis]
  exact Axis.reset_ok

theorem State.beginTick_keepsAxes (s : State) : KeepsAxes s s.beginTick := fun n h => by
  rw [s.beginTick_axis]
  exact h.tick

end Sys2Proof.Machine

/-! ## Every step keeps the axes in range (O8) -/

namespace Sys2Proof.Machine

/-! ### The requests (R79 to R82, R142, R172) -/

/-- A request that keeps the axes in range. -/
def Server.KeepsAxes (serve : Server) : Prop := ∀ p payload s, Leaves (Machine.KeepsAxes s) (serve p payload s)

/-- A request that leaves the axes as they are. -/
def Server.SameAxes (serve : Server) : Prop := ∀ p payload s, Leaves (fun t => t.axes = s.axes) (serve p payload s)

theorem Server.SameAxes.keepsAxes {serve : Server} (h : Server.SameAxes serve) : Server.KeepsAxes serve :=
  fun p payload s bytes t ht => .of_axes (h p payload s bytes t ht)

theorem axisSetupServer_keepsAxes : Server.KeepsAxes axisSetupServer := fun _ _ _ =>
  leaves_sessionRequest fun _ _ _ => leaves_bind fun _ _ => leaves_bind fun mode _ => leaves_bind fun invert _ =>
    leaves_bind fun _ hfilter => leaves_bind fun _ _ => leaves_ok
      (State.setAxis_keepsAxes fun h => (h.setMode mode).setFilter invert (decide_eq_true_eq.mp (require_ok hfilter)))

theorem axisSpanServer_keepsAxes : Server.KeepsAxes axisSpanServer := fun _ _ _ =>
  leaves_sessionRequest fun _ _ _ => leaves_bind fun _ _ => leaves_bind fun _ hspan => leaves_bind fun _ _ =>
    leaves_ok (State.setAxis_offer_keepsAxes (fun h => h.setSpan (require_ok hspan)) _ _)

theorem axisPresetServer_keepsAxes : Server.KeepsAxes axisPresetServer := fun _ _ _ =>
  leaves_sessionRequest fun _ _ _ => leaves_bind fun _ _ => leaves_bind fun _ hrange => leaves_bind fun _ _ =>
    leaves_bind fun _ hstate => leaves_ok (State.setAxis_offer_keepsAxes
      (fun h => h.setCount (require_ok hrange) (decide_eq_true_eq.mp (require_ok hstate))) _ _)

theorem axisClearFaultServer_keepsAxes : Server.KeepsAxes axisClearFaultServer := fun _ _ _ =>
  leaves_sessionRequest fun _ _ _ => leaves_bind fun _ _ => leaves_bind fun _ hrange => leaves_bind fun _ _ =>
    leaves_bind fun _ hstate => leaves_ok (State.setAxis_offer_keepsAxes
      (fun h => h.clearFault (require_ok hrange) (decide_eq_true_eq.mp (require_ok hstate))) _ _)

theorem deviceResetServer_keepsAxes : Server.KeepsAxes deviceResetServer := fun _ _ s =>
  leaves_sessionRequest fun _ _ _ => leaves_bind fun _ _ =>
    leaves_ok (KeepsAxes.trans _ _ _ (.of_axes s.closeAll_axes) (State.resetBlocks_keepsAxes _))

theorem openServer_sameAxes : Server.SameAxes openServer := fun _ _ _ =>
  leaves_bind fun _ _ => leaves_bind fun _ _ => leaves_bind fun _ _ => leaves_bind fun _ _ => leaves_ok rfl

theorem closeServer_sameAxes : Server.SameAxes closeServer := fun p _ s =>
  leaves_sessionRequest fun _ _ _ => leaves_ok (s.closeSession_axes p)

theorem pingServer_sameAxes : Server.SameAxes pingServer := fun _ _ _ => leaves_sessionRequest fun _ _ _ => leaves_ok rfl

theorem deviceInfoServer_sameAxes : Server.SameAxes deviceInfoServer := fun _ _ _ =>
  leaves_sessionRequest fun _ _ _ => leaves_ok rfl

theorem claimServer_sameAxes : Server.SameAxes claimServer := fun _ _ _ =>
  leaves_sessionRequest fun _ _ _ => leaves_bind fun _ _ => leaves_bind fun _ _ => by
    split
    · exact leaves_ok rfl
    · split
      · exact leaves_ok rfl
      · split
        · exact leaves_error _
        · split
          · exact leaves_ok (State.raiseTo_only _ _ _).axes
          · exact leaves_error _

theorem releaseServer_sameAxes : Server.SameAxes releaseServer := fun _ _ s =>
  leaves_sessionRequest fun _ _ _ => leaves_bind fun r _ => leaves_bind fun _ _ => leaves_ok (s.giveUp_only r).axes

theorem whoOwnsServer_sameAxes : Server.SameAxes whoOwnsServer := fun _ _ _ =>
  leaves_sessionRequest fun _ _ _ => by
    unfold whoOwnsBody
    split
    · exact leaves_ok rfl
    · exact leaves_bind fun _ _ => leaves_ok rfl

theorem axisReadServer_sameAxes : Server.SameAxes axisReadServer := fun _ _ _ =>
  leaves_sessionRequest fun _ _ _ => leaves_bind fun _ _ => leaves_bind fun _ _ => leaves_ok rfl

theorem snapServer_sameAxes : Server.SameAxes snapServer := fun _ _ s =>
  leaves_sessionRequest fun _ _ _ => leaves_bind fun _ _ => leaves_bind fun _ _ => leaves_bind fun _ _ => by
    dsimp only
    split
    · exact leaves_ok (s.capture_only _).axes
    · exact leaves_ok rfl

theorem timeReadServer_sameAxes : Server.SameAxes timeReadServer := fun _ _ _ =>
  leaves_sessionRequest fun _ _ _ => leaves_ok rfl

theorem alignArmServer_sameAxes : Server.SameAxes alignArmServer := fun _ _ _ =>
  leaves_sessionRequest fun _ _ _ => leaves_bind fun _ _ => leaves_bind fun _ _ => leaves_ok rfl

theorem alignCancelServer_sameAxes : Server.SameAxes alignCancelServer := fun _ _ _ =>
  leaves_sessionRequest fun _ _ _ => leaves_bind fun _ _ => leaves_ok rfl

theorem markSetupServer_sameAxes : Server.SameAxes markSetupServer := fun _ _ _ =>
  leaves_sessionRequest fun _ _ _ => leaves_bind fun _ _ => leaves_bind fun _ _ => leaves_bind fun _ _ => leaves_ok rfl

theorem markPulseServer_sameAxes : Server.SameAxes markPulseServer := fun _ _ _ =>
  leaves_sessionRequest fun _ _ _ => leaves_bind fun _ _ => leaves_ok rfl

theorem trigSetupServer_sameAxes : Server.SameAxes trigSetupServer := fun _ _ s =>
  leaves_sessionRequest fun _ _ _ => leaves_bind fun _ _ => leaves_bind fun _ _ => leaves_bind fun _ _ =>
    leaves_bind fun _ _ => leaves_ok (s.arrive_only _ _).axes

theorem trigLineFilterServer_sameAxes : Server.SameAxes trigLineFilterServer := fun _ _ _ =>
  leaves_sessionRequest fun _ _ _ => leaves_bind fun _ _ => leaves_bind fun _ _ => leaves_ok rfl

theorem trigArmServer_sameAxes : Server.SameAxes trigArmServer := fun _ _ _ =>
  leaves_sessionRequest fun _ _ _ => leaves_bind fun _ _ => leaves_bind fun _ _ => leaves_bind fun _ _ => leaves_ok rfl

theorem trigDisarmServer_sameAxes : Server.SameAxes trigDisarmServer := fun _ _ _ =>
  leaves_sessionRequest fun _ _ _ => leaves_bind fun _ _ => leaves_bind fun _ _ =>
    leaves_ok (State.raiseToOwner_if_only _ _ _ _).axes

theorem trigFireServer_sameAxes : Server.SameAxes trigFireServer := fun _ _ s =>
  leaves_sessionRequest fun _ _ _ => leaves_bind fun c _ => leaves_bind fun _ _ => leaves_bind fun _ _ =>
    leaves_ok ((State.handOver_only _ _).axes.trans (s.fire_only c).axes)

theorem trigStatusServer_sameAxes : Server.SameAxes trigStatusServer := fun _ _ _ =>
  leaves_sessionRequest fun _ _ _ => leaves_bind fun _ _ => leaves_ok rfl

theorem logSubscribeServer_sameAxes : Server.SameAxes logSubscribeServer := fun p _ s =>
  leaves_sessionRequest fun _ _ _ => leaves_bind fun _ _ => leaves_bind fun _ _ => leaves_bind fun _ _ =>
    leaves_ok (s.setReader_levelCheck_only p _).axes

theorem logUnsubscribeServer_sameAxes : Server.SameAxes logUnsubscribeServer := fun p _ s =>
  leaves_sessionRequest fun _ _ _ => leaves_bind fun _ _ => leaves_ok (s.setReader_only p none).axes

theorem logFetchServer_sameAxes : Server.SameAxes logFetchServer := fun _ _ _ =>
  leaves_sessionRequest fun _ _ _ => leaves_bind fun _ _ => leaves_bind fun _ _ => leaves_ok rfl

theorem logReleaseServer_sameAxes : Server.SameAxes logReleaseServer := fun p _ s =>
  leaves_sessionRequest fun _ _ _ => leaves_bind fun _ _ => by
    dsimp only
    split
    · exact leaves_error _
    · exact leaves_ok rfl
    · exact leaves_ok (s.setReader_levelCheck_only p _).axes

theorem logStatusServer_sameAxes : Server.SameAxes logStatusServer := fun _ _ _ =>
  leaves_sessionRequest fun _ _ _ => by
    unfold logStatusBody
    dsimp only
    split <;> exact leaves_ok rfl

theorem cmpSetupServer_sameAxes : Server.SameAxes cmpSetupServer := fun _ _ s =>
  leaves_sessionRequest fun _ _ _ => leaves_bind fun e _ => leaves_bind fun _ _ => leaves_bind fun _ _ =>
    leaves_bind fun _ _ => leaves_bind fun _ _ => leaves_bind fun _ _ => leaves_bind fun _ _ =>
      leaves_ok (s.replaceEntry_only e _).axes

theorem cmpEnableServer_sameAxes : Server.SameAxes cmpEnableServer := fun _ _ s =>
  leaves_sessionRequest fun _ _ _ => leaves_bind fun e _ => leaves_bind fun _ _ => leaves_ok (s.replaceEntry_only e _).axes

theorem cmpDisableServer_sameAxes : Server.SameAxes cmpDisableServer := fun _ _ s =>
  leaves_sessionRequest fun _ _ _ => leaves_bind fun e _ => leaves_bind fun _ _ => leaves_ok (s.replaceEntry_only e _).axes

theorem cmpStatusServer_sameAxes : Server.SameAxes cmpStatusServer := fun _ _ _ =>
  leaves_sessionRequest fun _ _ _ => leaves_bind fun _ _ => leaves_ok rfl

theorem gateSetupServer_sameAxes : Server.SameAxes gateSetupServer := fun _ _ _ =>
  leaves_sessionRequest fun _ _ _ => leaves_bind fun _ _ => leaves_bind fun _ _ => leaves_bind fun _ _ =>
    leaves_bind fun _ _ => leaves_bind fun _ _ => leaves_bind fun _ _ => leaves_ok rfl

theorem gateSetServer_sameAxes : Server.SameAxes gateSetServer := fun _ _ _ =>
  leaves_sessionRequest fun _ _ _ => leaves_bind fun _ _ => leaves_bind fun _ _ => leaves_bind fun _ _ => leaves_ok rfl

theorem gateStatusServer_sameAxes : Server.SameAxes gateStatusServer := fun _ _ _ =>
  leaves_sessionRequest fun _ _ _ => leaves_bind fun _ _ => leaves_ok rfl

theorem eventMaskServer_sameAxes : Server.SameAxes eventMaskServer := fun _ _ _ =>
  leaves_sessionRequest fun _ _ _ => leaves_bind fun _ _ => leaves_ok rfl

theorem eventReadServer_sameAxes : Server.SameAxes eventReadServer := fun _ _ _ =>
  leaves_sessionRequest fun _ _ _ => leaves_ok rfl

theorem eventAckServer_sameAxes : Server.SameAxes eventAckServer := fun _ _ _ =>
  leaves_sessionRequest fun _ _ _ => leaves_bind fun _ _ => leaves_ok rfl

/-- Every request of the table keeps the axes in range. -/
theorem requestTable_keepsAxes : ∀ e ∈ requestTable, Server.KeepsAxes e.2 := by
  simp only [requestTable, List.forall_mem_cons]
  exact ⟨openServer_sameAxes.keepsAxes, closeServer_sameAxes.keepsAxes, pingServer_sameAxes.keepsAxes,
    deviceInfoServer_sameAxes.keepsAxes, deviceResetServer_keepsAxes, claimServer_sameAxes.keepsAxes,
    releaseServer_sameAxes.keepsAxes, whoOwnsServer_sameAxes.keepsAxes, axisSetupServer_keepsAxes,
    axisSpanServer_keepsAxes, axisPresetServer_keepsAxes, axisClearFaultServer_keepsAxes,
    axisReadServer_sameAxes.keepsAxes, snapServer_sameAxes.keepsAxes, timeReadServer_sameAxes.keepsAxes,
    alignArmServer_sameAxes.keepsAxes, alignCancelServer_sameAxes.keepsAxes, markSetupServer_sameAxes.keepsAxes,
    markPulseServer_sameAxes.keepsAxes, trigSetupServer_sameAxes.keepsAxes, trigLineFilterServer_sameAxes.keepsAxes,
    trigArmServer_sameAxes.keepsAxes, trigDisarmServer_sameAxes.keepsAxes, trigFireServer_sameAxes.keepsAxes,
    trigStatusServer_sameAxes.keepsAxes, logSubscribeServer_sameAxes.keepsAxes, logUnsubscribeServer_sameAxes.keepsAxes,
    logFetchServer_sameAxes.keepsAxes, logReleaseServer_sameAxes.keepsAxes, logStatusServer_sameAxes.keepsAxes,
    cmpSetupServer_sameAxes.keepsAxes, cmpEnableServer_sameAxes.keepsAxes, cmpDisableServer_sameAxes.keepsAxes,
    cmpStatusServer_sameAxes.keepsAxes, gateSetupServer_sameAxes.keepsAxes, gateSetServer_sameAxes.keepsAxes,
    gateStatusServer_sameAxes.keepsAxes, eventMaskServer_sameAxes.keepsAxes, eventReadServer_sameAxes.keepsAxes,
    eventAckServer_sameAxes.keepsAxes, List.forall_mem_nil _⟩

theorem State.takeNextRequest_keepsAxes (s : State) : KeepsAxes s s.takeNextRequest :=
  State.takeNextRequest_preserves (P := KeepsAxes s) (fun _ _ h => h) (fun _ _ _ h => h)
    (fun t h => KeepsAxes.trans _ _ _ h (.of_axes (t.arrive_only _ _).axes))
    (fun t p h => KeepsAxes.trans _ _ _ h (.of_axes (by rw [t.discardAll_eq])))
    (fun e he p payload t ht bytes u hu => KeepsAxes.trans _ _ _ ht (requestTable_keepsAxes e he p payload t bytes u hu)) s
    (KeepsAxes.refl s)

/-! ### The tick (R71, R89; log entry 2) -/

theorem State.sampleAxesLeft_keepsAxes (s : State) : KeepsAxes s s.sampleAxesLeft := by
  rw [s.sampleAxesLeft_eq]
  refine KeepsAxes.foldl _ (fun t n => ?_) allAxes s
  exact KeepsAxes.trans _ _ _ (KeepsAxes.ite (KeepsAxes.refl t) (t.sampleAB_keepsAxes n [] []))
    (KeepsAxes.ite (KeepsAxes.refl _) (State.sampleZ_keepsAxes _ n []))

/-- On the field side only the samples of the axes that are left move an axis. -/
theorem State.endFieldSide_keepsAxes (s : State) : KeepsAxes s s.endFieldSide := by
  have sampled := KeepsAxes.trans _ _ _ (.of_axes s.takeMarkPulseEnd_only.axes) (State.sampleAxesLeft_keepsAxes _)
  refine KeepsAxes.trans _ _ _ sampled (.of_axes ?_)
  exact (State.arrive_only _ _ _).axes.trans ((State.gatePulseEndsLeft_only _).axes.trans
    ((State.burstStepsLeft_only _).axes.trans (State.sampleLinesLeft_only _).axes))

theorem State.endPorts_keepsAxes (s : State) : KeepsAxes s s.endPorts := by
  have expired : KeepsAxes s s.expiriesLeft := .of_axes (foldl_keeps State.axes _ State.takeExpiry_axes allPorts s)
  have last : ∀ t : State, KeepsAxes t t.expiriesLast := fun t =>
    .of_axes (foldl_keeps State.axes _ State.expireLast_axes allPorts t)
  have taken := KeepsAxes.trans _ _ _ expired (State.takeNextRequest_keepsAxes _)
  exact KeepsAxes.trans _ _ _ (KeepsAxes.trans _ _ _ taken (last _)) (State.takeNextRequest_keepsAxes _)

theorem State.finishTick_keepsAxes (s : State) : KeepsAxes s s.finishTick := by
  have ports := KeepsAxes.trans _ _ _ s.endFieldSide_keepsAxes (State.endPorts_keepsAxes _)
  refine KeepsAxes.trans _ _ _ ports (.of_axes ?_)
  exact (State.arrive_only _ _ _).axes.trans (State.sampleMarkLeft_only _).axes

/-! ### The step -/

/-- A happening that keeps the axes in range, and then brings captures to the log. -/
theorem KeepsAxes.reachLog {s t : State} (h : KeepsAxes s t) (order : LogOrder) : KeepsAxes s (t.reachLog order) :=
  trans _ _ _ h (.of_axes (t.arrive_only _ _).axes)

/-- A happening that is no request keeps the axes in range. -/
theorem exec_keepsAxes_of_happening {c : Instr} {s t : State} (hc : requestOf c = none) (ht : exec c s = .next t) :
    KeepsAxes s t := by
  cases c with
  | pinReset => cases ht; exact s.pinReset_keepsAxes
  | portUnblock p => cases ht; exact .of_axes (s.unblock_only p).axes
  | transactionBegin p => cases ht; exact .of_axes (s.beginTransaction_only p).axes
  | statusByteShifted p received => cases ht; exact .of_axes (s.showStatus_only p received).axes
  | responseDelivered p received => cases ht; exact .of_axes (s.deliverResponse_only p received).axes
  | transactionEnd p received => cases ht; exact .of_axes (s.endTransaction_axes p received)
  | sessionExpiry p => cases ht; exact .of_axes (s.takeExpiry_axes p)
  | axisLevelChange n input => cases ht; exact (s.showAxis_keepsAxes n input).reachLog _
  | gatePulseEnd g => cases ht; exact .of_axes (s.takeGatePulseEnd_only g).axes
  | trigLevelChange l raw channels => cases ht; exact (KeepsAxes.of_axes (s.showTrigLine_only l raw _).axes).reachLog _
  | burstStep step => cases ht; exact (KeepsAxes.of_axes (s.takeBurstStep_only step.channel).axes).reachLog _
  | markPulseEnd => cases ht; exact .of_axes s.takeMarkPulseEnd_only.axes
  | recognisedEdge events log => cases ht; exact (KeepsAxes.of_axes (s.takeRecognisedEdge_only events).axes).reachLog _
  | recognizerRearm => cases ht; exact .of_axes s.takeRearm_only.axes
  | markLineChange outside => cases ht; exact KeepsAxes.refl s
  | tickCountAdvance =>
    have he : s.finishTick.beginTick = t := Host.Outcome.next.inj ht
    rw [← he]
    exact KeepsAxes.trans _ _ _ s.finishTick_keepsAxes (State.beginTick_keepsAxes _)
  | _ => cases hc

theorem exec_keepsAxes {c : Instr} {s t : State} (ht : exec c s = .next t) : KeepsAxes s t := by
  cases hc : requestOf c with
  | none => exact exec_keepsAxes_of_happening hc ht
  | some request =>
    rcases exec_request_cases hc s with he | he <;> rw [he] at ht <;> cases ht
    · exact KeepsAxes.refl s
    · exact s.takeNextRequest_keepsAxes

/-- Settles O8: the AXIS requests check what they set, a step goes to the limit at most, and all else leaves mode, count and span. -/
theorem stepKeepsAxesInRange : Obligations.StepKeepsAxesInRange := by
  intro s t h ht n
  unfold step at ht
  split at ht
  · cases ht
    exact h n
  · next c rest _ => exact exec_keepsAxes (s := { s with pending := rest }) ht n (h n)

end Sys2Proof.Machine

/-! ## AXIS_SETUP and AXIS_READ (O33, O36) -/

namespace Sys2Proof.Machine

/-! ### AXIS_SETUP (R76, R80) -/

/-- A decode mode is a code from 0 to 5 (R178). -/
theorem decodeModeField_eq (payload : List Byte) (off : Nat) :
    codeField decodeMode? payload off =
      if 5 < (byteAt payload off).toNat then .error .badValue else .ok (modeOfByte (byteAt payload off)) := by
  unfold codeField decodeMode? modeOfByte
  generalize byteAt payload off = b
  by_cases hb : 5 < b.toNat
  · have undefined : b ≠ 0 ∧ b ≠ 1 ∧ b ≠ 2 ∧ b ≠ 3 ∧ b ≠ 4 ∧ b ≠ 5 := by bv_omega
    simp only [undefined, hb, if_true, if_false]
  · have defined : b = 0 ∨ b = 1 ∨ b = 2 ∨ b = 3 ∨ b = 4 ∨ b = 5 := by bv_omega
    rcases defined with rfl | rfl | rfl | rfl | rfl | rfl <;> rfl

/-- Mode code 0 alone is OFF (R178). -/
theorem modeOfByte_eq_off_iff (b : Byte) : modeOfByte b = .off ↔ b = 0 := by
  unfold modeOfByte
  split_ifs <;> simp_all

/-- The mode set by its code, with the state and the cause that R76 gives. -/
theorem Axis.setMode_modeOfByte (x : Axis) (b : Byte) :
    x.setMode (modeOfByte b) =
      { x with mode := modeOfByte b
               state := if b = 0 then .off else if x.state = .off then .counting else x.state
               cause := if b = 0 then .none else x.cause } := by
  unfold Axis.setMode
  simp only [modeOfByte_eq_off_iff]
  split
  · rfl
  · split <;> rfl

/-- AXIS_SETUP on a port with a session: its checks in order, then mode, invert and filter replaced (R80). -/
theorem axisSetupServer_eq {s : State} {p : PortId} {ses : Session} (hs : s.session p = some ses)
    (n mode invert filter : Byte) :
    axisSetupServer p [n, mode, invert, filter] s =
      let k : AxisId := Fin.ofNat 6 n.toNat
      let x := { (s.axis k).setMode (modeOfByte mode) with invert := decide (invert = 1), filter := filter.toNat }
      if 5 < n.toNat then .error .outOfRange
      else if 5 < mode.toNat ∨ 1 < invert.toNat then .error .badValue
      else if 15 < filter.toNat then .error .outOfRange
      else if s.owner (.axis k) ≠ some p then .error .notOwner
      else .ok ([x.state.code], s.setAxis k x) := by
  have hfilter : natAt [n, mode, invert, filter] 3 1 = filter.toNat := natAt_one _ _ _ rfl
  rw [axisSetupServer, sessionRequest_of_some (len := 4) hs rfl, axisSetupBody]
  simp only [idField_eq, ite_error_bind, ok_bind, decodeModeField_eq, flagField_eq, hfilter, require_bind, requireOwner_bind,
    Nat.not_le, ite_or]
  rfl

/-- Settles O33: the checks one by one, then the axis replaced. -/
theorem axisSetupSetsModeAndState : Obligations.AxisSetupSetsModeAndState := by
  intro s p tag n mode invert filter ses hn hs
  refine ⟨_, rfl, ?_⟩
  refine refused_ite hn (axisSetupServer_eq (s := s.taken p) hs n mode invert filter) fun _ server => ?_
  refine refused_ite hn server fun _ server => refused_ite hn server fun _ server => ?_
  refine refused_ite hn server fun _ server => ?_
  generalize (Fin.ofNat 6 n.toNat : AxisId) = k at server ⊢
  simp only [Axis.setMode_modeOfByte] at server
  refine ⟨answered_of_ok hn (by decide) server rfl rfl, ?_⟩
  rw [executorTakes_of_ok hn server]
  exact ⟨State.setAxis_axis_same _ k _, fun m hm => State.setAxis_axis_ne _ k _ hm, rfl⟩

/-! ### AXIS_READ (R84, R85) -/

/-- The count byte shows CLIPPED in bit 0 and the presence of turns in bit 1 (R183). -/
theorem countByte_bits (t : Stamp) (n : AxisId) (clip modulo : Bool) :
    (countByte t n clip modulo).getLsbD 0 = clip ∧ (countByte t n clip modulo).getLsbD 1 = modulo := by
  unfold countByte
  simp only [BitVec.getLsbD_append]
  simp

/-- AXIS_READ on a port with a session: its checks in order, then the report (R84). -/
theorem axisReadServer_eq {s : State} {p : PortId} {ses : Session} (hs : s.session p = some ses) (n form : Byte) :
    axisReadServer p [n, form] s =
      let k : AxisId := Fin.ofNat 6 n.toNat
      if 5 < n.toNat then .error .outOfRange
      else if 1 < form.toNat then .error .badValue
      else .ok ((s.axis k).readBytes (decide (form = 1)) s.stamp k, s) := by
  have hform : codeField narrowForm? [n, form] 1 = flagField [n, form] 1 := rfl
  rw [axisReadServer, sessionRequest_of_some (len := 2) (payload := [n, form]) hs rfl, axisReadBody, idField_eq,
    ite_error_bind, ok_bind, hform, flagField_eq, ite_error_bind, ok_bind]
  rfl

/-- The report of an axis, field by field, in the layout of R183. -/
theorem Axis.readBytes_eq (x : Axis) (form : Byte) (t : Stamp) (n : AxisId) :
    x.readBytes (decide (form = 1)) t n =
      [x.mode.code, byteOfFlag x.invert, byteOfNat x.filter] ++ bytesOfNat 4 x.span ++
        [x.state.code, x.cause.code,
          countByte t n (clippedBit (decide (form = 1)) t n x.count) (decide (x.span ≠ 0))] ++
        (if form = 1 then bytesOfNarrow (max (-2147483648) (min x.count 2147483647)) else bytesOfCount x.count) ++
        (if x.span = 0 then [] else bytesOfNat 2 x.turns.toNat) ++ [byteOfNat x.phaseErrors] := by
  unfold Axis.readBytes
  simp only [decide_eq_true_eq, narrow_eq, ne_eq, ite_not]

/-- Settles O36: the checks, then the report alone. -/
theorem axisReadReportsAndClips : Obligations.AxisReadReportsAndClips := by
  intro s p tag n form ses hn hs
  refine ⟨_, rfl, ?_⟩
  refine refused_ite hn (axisReadServer_eq (s := s.taken p) hs n form) fun _ server => refused_ite hn server fun _ server => ?_
  generalize (Fin.ofNat 6 n.toNat : AxisId) = k at server ⊢
  rw [Axis.readBytes_eq] at server
  obtain ⟨clip, modulo⟩ := countByte_bits s.stamp k (clippedBit (decide (form = 1)) s.stamp k (s.axis k).count)
    (decide ((s.axis k).span ≠ 0))
  refine ⟨_, fun hform => ?_, modulo, onlyAnswered_of_ok hn (by decide) server⟩
  subst hform
  exact clip.trans (clipped_eq _)

end Sys2Proof.Machine

/-! ## A count offered quietly (R83, R99, R107) -/

namespace Sys2Proof.Machine

/-! ### What a gate shows (R106, R107) -/

/-- Whether some source of a gate is met depends on the met flags of its sources alone (R106). -/
theorem State.anyMet_congr {s t : State} {sources : EntrySet}
    (h : ∀ e : EntryId, inSet sources e = true → (t.entry e).met = (s.entry e).met) : t.anyMet sources = s.anyMet sources := by
  unfold State.anyMet
  refine congrArg (fun f => allEntries.any f) (funext fun e => ?_)
  cases hs : inSet sources e
  · rfl
  · rw [h e hs]

/-- The level of a gate depends on the entries in FOLLOW alone (R106). -/
theorem State.gateLevel_congr {s t : State} {x : Gate} (h : x.mode = .follow → t.anyMet x.sources = s.anyMet x.sources) :
    t.gateLevel x = s.gateLevel x := by
  unfold State.gateLevel
  cases hm : x.mode with
  | manual => rfl
  | follow => simp only [h hm]
  | pulse => rfl

/-- From `s` to `t` the gates have followed the entries, and nothing else of them has changed (R107). -/
def State.GatesFollow (s t : State) : Prop := ∀ g, t.gate g = { s.gate g with output := t.gateLevel (s.gate g) }

theorem State.gatesFollow_self {s : State} (h : s.gatesOk) : s.GatesFollow s := fun g => by
  obtain ⟨houtput, -⟩ := h g
  rw [← houtput]

/-- A met flag set anew is handed to the FOLLOW gates that have its entry among their sources, and no other gate shows it (R107). -/
theorem State.GatesFollow.setMet {s t : State} (h : s.GatesFollow t) (e : EntryId) (met : Bool) :
    s.GatesFollow (t.setMet e met) := by
  unfold State.setMet
  dsimp only
  split
  · exact h
  · intro g
    have level : ∀ x, ((t.setEntry e { t.entry e with met := met }).followGates e).gateLevel x =
        (t.setEntry e { t.entry e with met := met }).gateLevel x := fun _ => rfl
    rw [State.followGates_gate, State.setEntry_gate, h g, level]
    unfold State.followGate
    split
    · rfl
    · next hf =>
      rw [State.gateLevel_congr fun hm => State.anyMet_congr fun k hk => ?_]
      have hne : k ≠ e := fun he => hf ⟨hm, he ▸ hk⟩
      rw [State.setEntry_entry_ne _ _ _ hne]

/-! ### The offer (R99) -/

/-- An entry that has been offered a count quietly: met takes the condition while it is ENABLED (R99). -/
def Entry.offered (v : Int) (x : Entry) : Entry := if x.enabled = true then { x with met := x.condition v } else x

theorem State.offerEntry_quiet (v : Int) (s : State) (e : EntryId) :
    State.offerEntry .quiet v s e = if (s.entry e).enabled = true then s.setMet e ((s.entry e).condition v) else s := by
  unfold State.offerEntry
  cases he : (s.entry e).enabled <;> simp [he]

theorem State.offerEntry_quiet_entry (v : Int) (s : State) (e k : EntryId) :
    (State.offerEntry .quiet v s e).entry k = if k = e then (s.entry k).offered v else s.entry k := by
  rw [State.offerEntry_quiet]
  unfold Entry.offered
  split
  · next he =>
    rw [State.setMet_entry]
    split
    · next hk => rw [hk, if_pos he]
    · rfl
  · next he =>
    split
    · next hk => rw [hk, if_neg he]
    · rfl

/-- What is done to one entry after the other, each once, is done to each of them. -/
theorem foldl_entry {f : State → EntryId → State} {g : Entry → Entry}
    (h : ∀ t e k, (f t e).entry k = if k = e then g (t.entry k) else t.entry k) {l : List EntryId} (hl : l.Nodup) (s : State)
    (k : EntryId) : (l.foldl f s).entry k = if k ∈ l then g (s.entry k) else s.entry k := by
  induction l generalizing s with
  | nil => rfl
  | cons e l ih =>
    obtain ⟨he, hl⟩ := List.nodup_cons.mp hl
    rw [List.foldl_cons, ih hl, h]
    by_cases hk : k = e
    · subst hk
      simp [he]
    · simp [hk]

/-- A quiet offer changes the entries of the axis, and the gates that follow them (R83, R99). -/
theorem State.offer_quiet_only (s : State) (n : AxisId) (order : List EntryId) : OnlyMet s (s.offer n .quiet order) :=
  foldl_reaches OnlyMet OnlyMet.refl OnlyMet.trans _
    (fun t e => by rw [State.offerEntry_quiet]; split <;> [exact t.setMet_only e _; exact OnlyMet.refl t]) _ s

theorem State.offer_offeredQuietly {s : State} (h : s.gatesOk) (n : AxisId) (order : List EntryId) :
    s.offeredQuietly n (s.axis n).count (s.offer n .quiet order) := by
  refine ⟨fun e => ?_, ?_⟩
  · unfold State.offer
    rw [foldl_entry (State.offerEntry_quiet_entry _) (s.nodup_watchers n order)]
    simp only [State.mem_watchers, Entry.offered, ite_and]
  · refine foldl_preserves s.GatesFollow _ (fun t e ht => ?_) _ s (State.gatesFollow_self h)
    rw [State.offerEntry_quiet]
    split
    · exact ht.setMet e _
    · exact ht

end Sys2Proof.Machine

/-! ## AXIS_SPAN, AXIS_PRESET and AXIS_CLEAR_FAULT (O34, O35) -/

namespace Sys2Proof.Machine

/-! ### Numbers of bytes, as bytes again (R177) -/

theorem bytesOfNat_natOfBytes (l : List Byte) : bytesOfNat l.length (natOfBytes l) = l := by
  induction l using List.reverseRecOn with
  | nil => rfl
  | append_singleton l b ih =>
    have hb : b.toNat < 256 := b.isLt
    have hquot : (natOfBytes l * 256 + b.toNat) / 256 = natOfBytes l := by omega
    have hlast : BitVec.ofNat 8 (natOfBytes l * 256 + b.toNat) = b := by bv_omega
    rw [List.length_append, List.length_singleton, natOfBytes_append_single, bytesOfNat, hquot, hlast, ih]

/-- A count that five bytes spell is sent as these bytes. -/
theorem bytesOfCount_countOfBytes {l : List Byte} (hl : l.length = 5) : bytesOfCount (countOfBytes l) = l := by
  have hlt : natOfBytes l < 2 ^ 40 := (natOfBytes_lt l).trans_eq (by rw [hl]; rfl)
  rw [bytesOfCount, countOfBytes, BitVec.ofInt_toInt, BitVec.toNat_ofNat, Nat.mod_eq_of_lt hlt]
  exact hl ▸ bytesOfNat_natOfBytes l

/-! ### An axis replaced, with its count offered quietly -/

/-- An accepted request that replaces an axis and offers its count quietly is answered, and nothing else changes. -/
theorem axisReplaced_of_ok {s : State} {p : PortId} {code tag : Byte} {payload bytes : List Byte} {serve : Server}
    {k : AxisId} {x : Axis} (hg : s.gatesOk)
    (h : s.nextRequest = some (p, { command := code, tag := tag, payload := payload })) (hc : code ≠ codeTimeRead)
    (he : serve p payload (s.taken p) = .ok (bytes, ((s.taken p).setAxis k x).offer k .quiet [])) :
    let t := executorTakes p { command := code, tag := tag, payload := payload } serve s
    s.answered p { command := code, tag := tag, result := .ok, payload := bytes } t ∧ t.axis k = x ∧
      (∀ m, m ≠ k → t.axis m = s.axis m) ∧ s.offeredQuietly k x.count t ∧
      t = { s with axes := t.axes, entries := t.entries, gates := t.gates, ports := t.ports, executor := t.executor } := by
  have only := State.offer_quiet_only ((s.taken p).setAxis k x) k []
  have offered := State.offer_offeredQuietly (s := (s.taken p).setAxis k x) hg k []
  rw [State.setAxis_axis_same] at offered
  have axis : ∀ m, (((s.taken p).setAxis k x).offer k .quiet []).axis m = ((s.taken p).setAxis k x).axis m := fun m => by
    rw [State.axis, only.axes, State.axis]
  refine ⟨answered_of_ok h hc he (by rw [only]; rfl) (by rw [only]; rfl), ?_⟩
  rw [executorTakes_of_ok h he]
  refine ⟨(axis k).trans (State.setAxis_axis_same _ k x), fun m hm => (axis m).trans (State.setAxis_axis_ne _ k x hm),
    offered, ?_⟩
  rw [State.deposit_eq, only]
  rfl

/-! ### AXIS_SPAN (R79) -/

/-- AXIS_SPAN on a port with a session: its checks in order, then the span replaced and the count offered (R79). -/
theorem axisSpanServer_eq {s : State} {p : PortId} {ses : Session} (hs : s.session p = some ses) (n b3 b2 b1 b0 : Byte) :
    axisSpanServer p [n, b3, b2, b1, b0] s =
      let k : AxisId := Fin.ofNat 6 n.toNat
      let span := natOfBytes [b3, b2, b1, b0]
      let x := s.axis k
      if 5 < n.toNat then .error .outOfRange
      else if span = 1 ∨ 2147483648 < span ∨ (span ≠ 0 ∧ ¬(0 ≤ x.count ∧ x.count < span)) then .error .outOfRange
      else if s.owner (.axis k) ≠ some p then .error .notOwner
      else .ok ([b3, b2, b1, b0] ++ bytesOfCount x.count ++ bytesOfNat 2 x.turns.toNat,
        (s.setAxis k { x with span := span }).offer k .quiet []) := by
  have hbytes : bytesOfNat 4 (natOfBytes [b3, b2, b1, b0]) = [b3, b2, b1, b0] := bytesOfNat_natOfBytes [b3, b2, b1, b0]
  have hspan : natAt [n, b3, b2, b1, b0] 1 4 = natOfBytes [b3, b2, b1, b0] := rfl
  rw [axisSpanServer, sessionRequest_of_some (len := 5) hs rfl, axisSpanBody, idField_eq, ite_error_bind, ok_bind]
  simp only [hspan, spanOk_eq, require_bind, requireOwner_bind, hbytes, not_not]
  rfl

/-- Settles O34: the checks one by one, then the span replaced and the count offered. -/
theorem axisSpanKeepsTheCount : Obligations.AxisSpanKeepsTheCount := by
  intro s p tag n b3 b2 b1 b0 ses hg hn hs
  refine ⟨_, rfl, ?_⟩
  refine refused_ite hn (axisSpanServer_eq (s := s.taken p) hs n b3 b2 b1 b0) fun _ server => ?_
  refine refused_ite hn server fun _ server => refused_ite hn server fun _ server => ?_
  exact axisReplaced_of_ok hg hn (by decide) server

/-! ### AXIS_PRESET and AXIS_CLEAR_FAULT (R81, R82) -/

section
variable {s : State} {p : PortId} {ses : Session} (hs : s.session p = some ses) (n : Byte) {value : List Byte}
  (hl : value.length = 5)
include hs hl

/-- AXIS_PRESET on a port with a session: its checks in order, then the count set and offered (R81). -/
theorem axisPresetServer_eq :
    axisPresetServer p (n :: value) s =
      let k : AxisId := Fin.ofNat 6 n.toNat
      let x := s.axis k
      let v := countOfBytes value
      let y : Axis := { x with count := v, turns := if x.span = 0 then x.turns else 0 }
      if 5 < n.toNat ∨ ¬(if x.span = 0 then -549755813888 ≤ v ∧ v ≤ 549755813887 else 0 ≤ v ∧ v < x.span) then
        .error .outOfRange
      else if s.owner (.axis k) ≠ some p then .error .notOwner
      else if x.state = .faulted then .error .wrongState
      else .ok (value ++ bytesOfNat 2 y.turns.toNat, (s.setAxis k y).offer k .quiet []) := by
  have hcount : countAt (n :: value) 1 = countOfBytes value := by
    rw [countAt, natAt, List.drop_one, List.tail_cons, List.take_of_length_le hl.le, countOfBytes]
  have hbytes : bytesOfCount (countOfBytes value) = value := bytesOfCount_countOfBytes hl
  rw [axisPresetServer, sessionRequest_of_some (len := 6) hs (by rw [List.length_cons, hl]), axisPresetBody, idField_eq,
    ite_error_bind, ok_bind, ite_or]
  simp only [hcount, Axis.inRange_eq, require_bind, requireOwner_bind, Axis.setCount, hbytes, not_not]
  rfl

/-- AXIS_CLEAR_FAULT on a port with a session: its checks in order, then the fault cleared, the count set and offered (R82). -/
theorem axisClearFaultServer_eq :
    axisClearFaultServer p (n :: value) s =
      let k : AxisId := Fin.ofNat 6 n.toNat
      let x := s.axis k
      let v := countOfBytes value
      let y : Axis := { x with count := v, turns := if x.span = 0 then x.turns else 0 }
      if 5 < n.toNat ∨ ¬(if x.span = 0 then -549755813888 ≤ v ∧ v ≤ 549755813887 else 0 ≤ v ∧ v < x.span) then
        .error .outOfRange
      else if s.owner (.axis k) ≠ some p then .error .notOwner
      else if x.state ≠ .faulted then .error .wrongState
      else .ok (value ++ bytesOfNat 2 y.turns.toNat,
        (s.setAxis k { y with state := .counting, cause := .none }).offer k .quiet []) := by
  have hcount : countAt (n :: value) 1 = countOfBytes value := by
    rw [countAt, natAt, List.drop_one, List.tail_cons, List.take_of_length_le hl.le, countOfBytes]
  have hbytes : bytesOfCount (countOfBytes value) = value := bytesOfCount_countOfBytes hl
  rw [axisClearFaultServer, sessionRequest_of_some (len := 6) hs (by rw [List.length_cons, hl]), axisClearFaultBody,
    idField_eq, ite_error_bind, ok_bind, ite_or]
  simp only [hcount, Axis.inRange_eq, require_bind, requireOwner_bind, Axis.setCount, hbytes]
  rfl

end

/-- Settles O35: the checks one by one, then the count set and offered, in FAULTED by the clear alone. -/
theorem axisPresetAndClearFaultSetTheCount : Obligations.AxisPresetAndClearFaultSetTheCount := by
  intro s p tag n value ses hg hl hs
  refine ⟨fun hn => ⟨_, rfl, ?_⟩, fun hn => ⟨_, rfl, ?_⟩⟩
  · refine refused_ite hn (axisPresetServer_eq (s := s.taken p) hs n hl) fun _ server => ?_
    refine refused_ite hn server fun _ server => refused_ite hn server fun _ server => ?_
    exact axisReplaced_of_ok hg hn (by decide) server
  · refine refused_ite hn (axisClearFaultServer_eq (s := s.taken p) hs n hl) fun _ server => ?_
    refine refused_ite hn server fun _ server => refused_ite hn server fun _ server => ?_
    exact axisReplaced_of_ok hg hn (by decide) server

end Sys2Proof.Machine

/-! ## Captures do not see the axes (R8, R10) -/

namespace Sys2Proof.Machine

/-- What a capture request meets at the log depends on the log and on the sessions alone (R10). -/
theorem State.capture_congr {s t : State} (hl : t.log = s.log) (hs : t.sessions = s.sessions) (c : Capture) :
    (t.capture c).2 = (s.capture c).2 ∧ (t.capture c).1.log = (s.capture c).1.log ∧
      (t.capture c).1.sessions = (s.capture c).1.sessions := by
  have session : ∀ p, t.session p = s.session p := fun p => congrArg (fun b => Bank.read b p) hs
  have reader : ∀ p, t.reader p = s.reader p := fun p => by rw [State.reader, State.reader, session]
  obtain ⟨-, roomS, pinnedS, fullS⟩ := captureIsWrittenEvictedOrDropped s c
  obtain ⟨-, roomT, pinnedT, fullT⟩ := captureIsWrittenEvictedOrDropped t c
  simp only [hl, session, reader] at roomT pinnedT fullT
  have join : ∀ {o l} {f : Session → Session},
      (s.capture c).2 = o ∧ (s.capture c).1.log = l ∧ (∀ p, (s.capture c).1.session p = (s.session p).map f) →
      (t.capture c).2 = o ∧ (t.capture c).1.log = l ∧ (∀ p, (t.capture c).1.session p = (s.session p).map f) →
      (t.capture c).2 = (s.capture c).2 ∧ (t.capture c).1.log = (s.capture c).1.log ∧
        (t.capture c).1.sessions = (s.capture c).1.sessions :=
    fun ⟨os, ls, ss⟩ ⟨ot, lt, st⟩ => ⟨ot.trans os.symm, lt.trans ls.symm, Bank.ext_read _ _ fun p => (st p).trans (ss p).symm⟩
  by_cases hroom : s.log.held < 256
  · exact join (roomS hroom) (roomT hroom)
  · by_cases hpin : ∃ p r, s.reader p = some r ∧ r.mode = .keep ∧ r.cursor = s.log.tail
    · exact join (pinnedS (Nat.not_lt.mp hroom) hpin) (pinnedT (Nat.not_lt.mp hroom) hpin)
    · exact join (fullS (Nat.not_lt.mp hroom) hpin) (fullT (Nat.not_lt.mp hroom) hpin)

theorem State.capture_setAxis (s : State) (n : AxisId) (x : Axis) (c : Capture) :
    (s.setAxis n x).capture c = ((s.capture c).1.setAxis n x, (s.capture c).2) := by
  obtain ⟨outcome, log, sessions⟩ := State.capture_congr (s := s) (t := s.setAxis n x) rfl rfl c
  refine Prod.ext ?_ outcome
  dsimp only
  rw [(s.setAxis n x).capture_only c, log, sessions, s.capture_only c]
  rfl

theorem State.handOver_setAxis (s : State) (n : AxisId) (x : Axis) (c : Capture) :
    ((s.setAxis n x).handOver c).1 = (s.handOver c).1.setAxis n x := by
  rw [State.handOver_eq, State.handOver_eq, State.capture_setAxis]
  split
  · dsimp only
    split <;> rfl
  · rfl
  · rfl

/-- A fold of operations that do not see the axes does not see them. -/
theorem foldl_setAxis {α : Type} (n : AxisId) (x : Axis) (f : State → α → State)
    (h : ∀ t a, f (t.setAxis n x) a = (f t a).setAxis n x) (l : List α) (s : State) :
    l.foldl f (s.setAxis n x) = (l.foldl f s).setAxis n x :=
  (List.foldl_hom (fun t => t.setAxis n x) (fun t a => h t a))

theorem State.arrive_setAxis (s : State) (n : AxisId) (x : Axis) (now rest : List Capture) :
    (s.setAxis n x).arrive now rest = (s.arrive now rest).setAxis n x :=
  foldl_setAxis n x _ (fun t c => t.handOver_setAxis n x c) now { s with underway := rest }

/-- What reaches the log, and with what outcome, does not depend on the axes: their values were taken with the request. -/
theorem State.reachLog_setAxis (s : State) (n : AxisId) (x : Axis) (order : LogOrder) :
    (s.setAxis n x).reachLog order = (s.reachLog order).setAxis n x := s.arrive_setAxis n x _ _

/-- The log leaves the axes and the MARK unit as they are. -/
theorem State.reachLog_only (s : State) (order : LogOrder) : OnlyFiring s (s.reachLog order) := s.arrive_only _ _

end Sys2Proof.Machine

/-! ## The pulse of a step's hits (R101, R122; log entry 10) -/

namespace Sys2Proof.Machine

theorem OnlySessions.entries {s t : State} (h : OnlySessions s t) : t.entries = s.entries := by rw [h]
theorem OnlySessions.mark {s t : State} (h : OnlySessions s t) : t.mark = s.mark := by rw [h]
theorem OnlyMet.mark {s t : State} (h : OnlyMet s t) : t.mark = s.mark := by rw [h]

/-! ### One entry -/

/-- An entry that asks for the part's own pulse when a STEP offers it a count: it hits, and its mark flag is set (R99, R101). -/
def Entry.pulses (v : Int) (x : Entry) : Bool := x.enabled && !x.met && x.condition v && x.markFlag

theorem State.requestMark_mark (s : State) (e : EntryId) :
    (s.requestMark e).mark = if s.mark.drive = .idle then s.mark.startPulse else s.mark := by
  unfold State.requestMark
  split <;> rfl

/-- A pulse request leaves the other entries as they are (R101). -/
theorem State.requestMark_entry_ne (s : State) {e k : EntryId} (h : k ≠ e) : (s.requestMark e).entry k = s.entry k := by
  unfold State.requestMark
  split
  · rfl
  · exact s.setEntry_entry_ne _ _ h

/-- The state of a hit before its pulse request: recorded, told to the owner, and handed to the gates (R100). -/
def State.hitTold (s : State) (e : EntryId) : State :=
  let x := s.entry e
  let recorded := s.setEntry e (x.recordHit s.stamp)
  (if x.event then recorded.raiseToOwner (.entry e) (.cmpHit e) else recorded).pulseGates e

theorem State.hit_eq (s : State) (e : EntryId) :
    s.hit e = if (s.entry e).markFlag then (s.hitTold e).requestMark e else s.hitTold e := rfl

theorem State.hitTold_mark (s : State) (e : EntryId) : (s.hitTold e).mark = s.mark :=
  (State.raiseToOwner_if_only _ _ _ _).mark

theorem State.hitTold_entry_ne (s : State) {e k : EntryId} (h : k ≠ e) : (s.hitTold e).entry k = s.entry k := by
  have told := State.raiseToOwner_if_only (s.setEntry e ((s.entry e).recordHit s.stamp)) ((s.entry e).event = true)
    (.entry e) (.cmpHit e)
  exact (congrArg (fun b => Bank.read b k) told.entries).trans (s.setEntry_entry_ne _ _ h)

/-- A hit starts a pulse when its mark flag asks for one and the drive is idle (R101). -/
theorem State.hit_mark (s : State) (e : EntryId) :
    (s.hit e).mark = if s.mark.drive = .idle ∧ (s.entry e).markFlag = true then s.mark.startPulse else s.mark := by
  rw [State.hit_eq]
  by_cases hm : (s.entry e).markFlag = true
  · rw [if_pos hm, State.requestMark_mark, State.hitTold_mark]
    simp only [hm, and_true]
  · rw [if_neg hm, State.hitTold_mark, if_neg fun h => hm h.2]

theorem State.hit_entry_ne (s : State) {e k : EntryId} (h : k ≠ e) : (s.hit e).entry k = s.entry k := by
  rw [State.hit_eq]
  split
  · rw [State.requestMark_entry_ne _ h, State.hitTold_entry_ne _ h]
  · exact s.hitTold_entry_ne h

/-- An offer at one entry leaves the others as they are (R99). -/
theorem State.offerEntry_entry_ne (kind : OfferKind) (v : Int) (s : State) {e k : EntryId} (h : k ≠ e) :
    (State.offerEntry kind v s e).entry k = s.entry k := by
  have met : ∀ b, (s.setMet e b).entry k = s.entry k := fun b => by rw [State.setMet_entry, if_neg h]
  unfold State.offerEntry
  dsimp only
  split
  · rfl
  · split
    · rw [State.hit_entry_ne _ h, met]
    · exact met _

/-- A STEP starts a pulse at an entry that asks for one, when the drive is idle (R101). -/
theorem State.offerEntry_step_mark (v : Int) (s : State) (e : EntryId) :
    (State.offerEntry .step v s e).mark =
      if s.mark.drive = .idle ∧ (s.entry e).pulses v = true then s.mark.startPulse else s.mark := by
  have keeps : ∀ b, (s.setMet e b).mark = s.mark := fun b => (s.setMet_only e b).mark
  have flag : ∀ b, ((s.setMet e b).entry e).markFlag = (s.entry e).markFlag := fun b => by rw [State.setMet_entry, if_pos rfl]
  unfold State.offerEntry Entry.pulses
  dsimp only
  by_cases henabled : (s.entry e).enabled = true
  · by_cases hhit : (!(s.entry e).met && (s.entry e).condition v) = true
    · rw [if_neg (by simp [henabled]), if_pos (by simpa using hhit), State.hit_mark, keeps, flag]
      simp [henabled, hhit]
    · rw [if_neg (by simp [henabled]), if_neg (by simpa using hhit), keeps, if_neg (by simp_all)]
  · rw [if_pos (by simp [henabled]), if_neg (by simp [henabled])]

/-! ### One step -/

/-- A STEP offered to entries, each once, starts one pulse when some of them asks for one and the drive is idle, in whatever order. -/
theorem State.foldl_offerEntry_step_mark (v : Int) {l : List EntryId} (hl : l.Nodup) (s : State) :
    (l.foldl (State.offerEntry .step v) s).mark =
      if s.mark.drive = .idle ∧ ∃ e ∈ l, (s.entry e).pulses v = true then s.mark.startPulse else s.mark := by
  induction l generalizing s with
  | nil => simp
  | cons e l ih =>
    obtain ⟨he, hl⟩ := List.nodup_cons.mp hl
    have others : (∃ k ∈ l, ((State.offerEntry .step v s e).entry k).pulses v = true) ↔ ∃ k ∈ l, (s.entry k).pulses v = true :=
      exists_congr fun k => and_congr_right fun hk => by
        rw [State.offerEntry_entry_ne _ _ _ (fun h : k = e => he (h ▸ hk))]
    rw [List.foldl_cons, ih hl, State.offerEntry_step_mark]
    simp only [others, List.exists_mem_cons_iff]
    by_cases hp : s.mark.drive = .idle ∧ (s.entry e).pulses v = true
    · have busy : s.mark.startPulse.drive ≠ .idle := nofun
      rw [if_pos hp, if_neg (fun h => busy h.1), if_pos ⟨hp.1, Or.inl hp.2⟩]
    · rw [if_neg hp]
      simp only [and_or_left, hp, false_or]

theorem State.offer_step_mark (s : State) (n : AxisId) (order : List EntryId) :
    (s.offer n .step order).mark =
      if s.mark.drive = .idle ∧ ∃ e, (s.entry e).axis = n ∧ (s.entry e).pulses (s.axis n).count = true then s.mark.startPulse
      else s.mark := by
  unfold State.offer
  rw [State.foldl_offerEntry_step_mark _ (s.nodup_watchers n order)]
  simp only [State.mem_watchers]

theorem State.faultAxis_mark (s : State) (n : AxisId) (x : Axis) (cause : FaultCause) : (s.faultAxis n x cause).mark = s.mark :=
  (State.raiseToOwner_only _ _ _).mark

/-- Whether a comparison starts a pulse does not depend on the orders of its hits (R100, R101). -/
theorem State.applyDecoded_mark_congr (s : State) (n : AxisId) (d : Decoded) (entries entries' : List EntryId)
    (channels channels' : List ChannelId) :
    (s.applyDecoded n d entries channels).mark = (s.applyDecoded n d entries' channels').mark := by
  unfold State.applyDecoded
  dsimp only
  split
  · rfl
  · split
    · rfl
    · rfl
    · split
      · rw [(State.triggerEvents_only _ _).mark, (State.triggerEvents_only _ _).mark, State.offer_step_mark, State.offer_step_mark]
      · rfl

/-- A comparison either leaves the MARK unit as it is, or starts a pulse on an idle drive (R101). -/
theorem State.applyDecoded_mark (s : State) (n : AxisId) (d : Decoded) (entries : List EntryId) (channels : List ChannelId) :
    (s.applyDecoded n d entries channels).mark = s.mark ∨
      s.mark.drive = .idle ∧ (s.applyDecoded n d entries channels).mark = s.mark.startPulse := by
  unfold State.applyDecoded
  dsimp only
  split
  · exact .inl rfl
  · split
    · exact .inl rfl
    · exact .inl (s.faultAxis_mark n _ _)
    · split
      · rw [(State.triggerEvents_only _ _).mark, State.offer_step_mark]
        split
        · next h => exact .inr ⟨h.1, rfl⟩
        · exact .inl rfl
      · exact .inl (s.faultAxis_mark n _ _)

/-- Levels that start no pulse leave the MARK unit as it is, in whatever order the hits of their sample are taken. -/
theorem State.sampleAB_mark_of_startsPulse {s : State} {n : AxisId} (hs : (s.axis n).sampledAB = false)
    (hp : s.startsPulse n = false) (entries : List EntryId) (channels : List ChannelId) :
    (s.sampleAB n entries channels).mark = s.mark := by
  have same : (s.sampleAB n entries channels).mark = (s.sampleAB n [] []).mark := State.applyDecoded_mark_congr _ n _ _ _ _ _
  have cases : (s.sampleAB n [] []).mark = s.mark ∨ s.mark.drive = .idle ∧ (s.sampleAB n [] []).mark = s.mark.startPulse :=
    State.applyDecoded_mark _ n _ _ _
  rw [same]
  refine cases.resolve_right fun ⟨hidle, hstart⟩ => ?_
  simp [State.startsPulse, hs, hidle, hstart, MarkUnit.startPulse] at hp

end Sys2Proof.Machine

/-! ## A change of A and B (O38) -/

namespace Sys2Proof.Machine

theorem OnlyFiring.mark {s t : State} (h : OnlyFiring s t) : t.mark = s.mark := by rw [h]

theorem State.setAxis_setAxis (s : State) (n : AxisId) (x y : Axis) : (s.setAxis n x).setAxis n y = s.setAxis n y :=
  congrArg (fun axes => { s with axes := axes }) (Bank.write_write _ _ _ _)

/-! ### The sample of A and B (R71, R72, R89) -/

/-- The axis once A and B have shown levels and taken this tick's sample. -/
def Axis.sampledAt (x : Axis) (a b : Level) : Axis :=
  { x with a := FilteredLine.sample { x.a with raw := a } x.sampleFilter
           b := FilteredLine.sample { x.b with raw := b } x.sampleFilter
           sampledAB := true }

/-- What the comparison of that sample with the tick before decodes; a line without a sample before shows no change. -/
def Axis.decodedAt (x : Axis) (a b : Level) : Decoded :=
  let y := x.sampledAt a b
  decodeLevels x.mode (if x.a.primed then x.a.level else y.a.level) (if x.b.primed then x.b.level else y.b.level)
    y.a.level y.b.level

/-- The level before a sample: the one that stood, or for a first sample the one it takes (R71, R72). -/
theorem FilteredLine.levelBefore_eq (old new : FilteredLine) :
    (if old.changedTo new then old.level else new.level) = if old.primed then old.level else new.level := by
  unfold FilteredLine.changedTo
  by_cases hl : old.level = new.level <;> simp [hl]

/-- Levels shown and sampled are decoded, and the comparison acts on the axis. -/
theorem State.sampleAB_of_shown (s : State) (n : AxisId) (a b : Level) (entries : List EntryId) (channels : List ChannelId) :
    (s.setAxis n ((s.axis n).show a b)).sampleAB n entries channels =
      (s.setAxis n ((s.axis n).sampledAt a b)).applyDecoded n ((s.axis n).decodedAt a b) entries channels := by
  unfold State.sampleAB
  dsimp only
  rw [State.setAxis_axis_same, State.setAxis_setAxis, FilteredLine.levelBefore_eq, FilteredLine.levelBefore_eq]
  rfl

/-! ### What a comparison does (R75 to R78) -/

theorem State.faultAxis_setAxis (s : State) (n : AxisId) (x y : Axis) (cause : FaultCause) :
    (s.setAxis n x).faultAxis n y cause = s.faultAxis n y cause :=
  congrArg (fun t : State => t.raiseToOwner (.axis n) (.axisFault n)) (s.setAxis_setAxis n x _)

section
variable {s : State} {n : AxisId} {y : Axis} {entries : List EntryId} {channels : List ChannelId}

theorem State.applyDecoded_of_idle {d : Decoded} (h : y.state ≠ .counting) :
    (s.setAxis n y).applyDecoded n d entries channels = s.setAxis n y := by
  unfold State.applyDecoded
  rw [State.setAxis_axis_same]
  exact if_pos h

theorem State.applyDecoded_nothing : (s.setAxis n y).applyDecoded n .nothing entries channels = s.setAxis n y := ite_self _

theorem State.applyDecoded_phaseError (h : y.state = .counting) :
    (s.setAxis n y).applyDecoded n .phaseError entries channels =
      s.faultAxis n { y with phaseErrors := countUp y.phaseErrors } .phase := by
  rw [← s.faultAxis_setAxis n y]
  unfold State.applyDecoded
  rw [State.setAxis_axis_same]
  exact if_neg (not_not.mpr h)

theorem State.applyDecoded_withheld (h : y.state = .counting) {up : Bool} (hy : y.stepped (up != y.invert) = none) :
    (s.setAxis n y).applyDecoded n (.step up) entries channels = s.faultAxis n y .overrange := by
  rw [← s.faultAxis_setAxis n y]
  unfold State.applyDecoded
  rw [State.setAxis_axis_same]
  dsimp only
  rw [if_neg (not_not.mpr h), hy]

theorem State.applyDecoded_moved (h : y.state = .counting) {up : Bool} {z : Axis} (hy : y.stepped (up != y.invert) = some z) :
    (s.setAxis n y).applyDecoded n (.step up) entries channels =
      ((s.setAxis n z).offer n .step entries).triggerEvents ((s.setAxis n z).hitChannels n channels) := by
  unfold State.applyDecoded
  rw [State.setAxis_axis_same]
  dsimp only
  rw [if_neg (not_not.mpr h), hy]
  dsimp only
  rw [State.setAxis_setAxis]

end

/-- A fault sets its axis, files AXIS_FAULT with its owner, and leaves all else (R87). -/
theorem State.faulted_of_eq {s u : State} {n : AxisId} {x : Axis} {cause : FaultCause} (h : u = s.faultAxis n x cause) :
    u.axis n = { x with state := .faulted, cause := cause } ∧ (∀ m, m ≠ n → u.axis m = s.axis m) ∧
      (∀ q, u.session q =
        if s.owner (.axis n) = some q then
          (s.session q).map (fun ses => { ses with records := ses.records.file (.axisFault n) })
        else s.session q) ∧
      u = { s with axes := u.axes, sessions := u.sessions } := by
  have told : OnlySessions (s.setAxis n { x with state := .faulted, cause := cause }) u := h ▸ State.raiseToOwner_only _ _ _
  have axis : ∀ m, u.axis m = (s.setAxis n { x with state := .faulted, cause := cause }).axis m :=
    fun m => congrArg (fun b => Bank.read b m) told.axes
  refine ⟨?_, fun m hm => ?_, fun q => h ▸ State.raiseToOwner_session _ _ _ q, ?_⟩
  · rw [axis, State.setAxis_axis_same]
  · rw [axis, State.setAxis_axis_ne _ _ _ hm]
  · rw [told.axes]
    exact told

/-- The channels that take a trigger event of the hits of a step to count `v`, each once, in some order (R44, R100). -/
def State.StepTakers (s : State) (n : AxisId) (v : Int) (l : List ChannelId) : Prop :=
  l.Nodup ∧ ∀ c, c ∈ l ↔ ∃ e,
    (s.channel c).config.source = .entry e ∧ (s.entry e).axis = n ∧ (s.entry e).enabled = true ∧ (s.entry e).met = false ∧
      (s.entry e).condition v = true

theorem State.hits_setAxis (s : State) (n : AxisId) (z : Axis) (e : EntryId) :
    (s.setAxis n z).hits n e = true ↔
      (s.entry e).axis = n ∧ (s.entry e).enabled = true ∧ (s.entry e).met = false ∧ (s.entry e).condition z.count = true := by
  have entry : (s.setAxis n z).entry e = s.entry e := rfl
  simp only [State.hits, entry, State.setAxis_axis_same, Bool.and_eq_true, decide_eq_true_eq, Bool.not_eq_true', and_assoc]

theorem State.hitChannels_takers (s : State) (n : AxisId) (z : Axis) (order : List ChannelId) :
    s.StepTakers n z.count ((s.setAxis n z).hitChannels n order) := by
  refine ⟨State.nodup_hitChannels _ n order, fun c => ?_⟩
  rw [State.mem_hitChannels]
  exact exists_congr fun e => by rw [State.hits_setAxis, and_comm]; rfl

theorem State.hitChannels_of_takers {s : State} {n : AxisId} {z : Axis} {l : List ChannelId} (h : s.StepTakers n z.count l) :
    (s.setAxis n z).hitChannels n l = l := by
  obtain ⟨hn, hl⟩ := h
  refine State.hitChannels_eq hn fun c => ?_
  rw [hl]
  exact exists_congr fun e => by rw [State.hits_setAxis, and_comm]; rfl

/-! ### The levels shown (log entries 9, 10) -/

section
variable {s : State} {n : AxisId} {a b : Level} {entries : List EntryId} {channels : ChannelOrder}

/-- After this tick's sample the raw levels alone change. -/
theorem State.showAxis_ab_of_sampled (h : (s.axis n).sampledAB = true) :
    s.showAxis n (.ab a b entries channels) = s.setAxis n ((s.axis n).show a b) := if_pos h

/-- Levels that would start a pulse once a re-arm stands come after the sample. -/
theorem State.showAxis_ab_of_late (h : ¬(s.axis n).sampledAB = true) (hr : s.rearmStands = true)
    (hp : (s.setAxis n ((s.axis n).show a b)).startsPulse n = true) :
    s.showAxis n (.ab a b entries channels) =
      let u := s.sampleAB n entries channels.events
      u.setAxis n ((u.axis n).show a b) := by
  simp only [State.showAxis]
  rw [if_neg h, if_pos (by rw [hr, hp]; rfl)]

/-- Levels of an axis still to be sampled are sampled at once. -/
theorem State.showAxis_ab_of_free (h : ¬(s.axis n).sampledAB = true)
    (hf : ¬(s.rearmStands = true ∧ (s.setAxis n ((s.axis n).show a b)).startsPulse n = true)) :
    s.showAxis n (.ab a b entries channels) =
      (s.setAxis n ((s.axis n).show a b)).sampleAB n entries channels.events := by
  simp only [State.showAxis]
  rw [if_neg h, if_neg (by rwa [Bool.and_eq_true])]

/-- The levels shown before make the sample as they stand. -/
theorem State.showAxis_ab_self (h : ¬(s.axis n).sampledAB = true) :
    s.showAxis n (.ab (s.axis n).a.raw (s.axis n).b.raw entries channels) = s.sampleAB n entries channels.events := by
  rw [State.showAxis_ab_of_free h, State.setAxis_show_self]
  rw [State.setAxis_show_self]
  rintro ⟨hr, hp⟩
  rw [State.startsPulse_of_rearmStands hr n] at hp
  cases hp

/-- Once a re-arm stands no levels of A and B start a pulse (R122, log entry 10). -/
theorem State.showAxis_ab_mark (hr : s.rearmStands = true) : (s.showAxis n (.ab a b entries channels)).mark = s.mark := by
  by_cases h : (s.axis n).sampledAB = true
  · rw [State.showAxis_ab_of_sampled h]
    rfl
  · by_cases hp : (s.setAxis n ((s.axis n).show a b)).startsPulse n = true
    · rw [State.showAxis_ab_of_late h hr hp]
      exact State.sampleAB_mark_of_startsPulse (eq_false_of_ne_true h) (State.startsPulse_of_rearmStands hr n) _ _
    · rw [State.showAxis_ab_of_free h fun hf => hp hf.2]
      refine State.sampleAB_mark_of_startsPulse ?_ (eq_false_of_ne_true hp) _ _
      rw [State.setAxis_axis_same]
      exact eq_false_of_ne_true h

end

/-! ### The hits of a step (R99, R100) -/

/-- What an applied step leaves: its count offered to each entry of the axis, then the trigger events of its hits, in the order the
command gives and in every other. -/
theorem stepOffered_reached {s : State} {n : AxisId} {z : Axis} {entries : List EntryId} {log : LogOrder}
    {run : List ChannelId → Host.Outcome State Fault Refusal}
    (h : ∀ l, run l =
      .next ((((s.setAxis n z).offer n .step entries).triggerEvents ((s.setAxis n z).hitChannels n l)).reachLog log))
    (events : List ChannelId) :
    ∃ order : List EntryId, order.Nodup ∧ (∀ e, e ∈ order ↔ (s.entry e).axis = n) ∧
      let offered := order.foldl (State.offerEntry .step z.count) (s.setAxis n z)
      (∃ l, s.StepTakers n z.count l ∧
          ((s.setAxis n z).offer n .step entries).triggerEvents ((s.setAxis n z).hitChannels n events) =
            l.foldl State.triggerEvent offered) ∧
        ∀ l, s.StepTakers n z.count l → ∃ v, run l = .next v ∧ (l.foldl State.triggerEvent offered).reached log v := by
  have offer : (s.setAxis n z).offer n .step entries =
      ((s.setAxis n z).watchers n entries).foldl (State.offerEntry .step z.count) (s.setAxis n z) := by
    rw [State.offer, State.setAxis_axis_same]
  refine ⟨(s.setAxis n z).watchers n entries, State.nodup_watchers _ n entries, State.mem_watchers _ n entries, ?_⟩
  rw [← offer]
  refine ⟨⟨_, s.hitChannels_takers n z events, rfl⟩, fun l hl => ⟨_, h l, ?_⟩⟩
  rw [State.hitChannels_of_takers hl]
  exact State.reachLog_reached _ log

/-- A step is reversed by invert (R72). -/
theorem bne_eq_ite_not (up invert : Bool) : (up != invert) = if invert then !up else up := by
  cases invert <;> simp

/-- Settles O38: levels shown late come after the sample, levels shown again change raw alone, and the others are sampled and
compared. -/
theorem axisLevelsAreDecodedOnceATick : Obligations.AxisLevelsAreDecodedOnceATick := by
  intro s n a b entries channels
  refine ⟨_, rfl, fun hr => (OnlyFiring.mark (State.reachLog_only _ _)).trans (State.showAxis_ab_mark hr), ?_⟩
  intro x shown fa fb y d
  split
  · next hlate =>
    obtain ⟨hsampled, hr, hp⟩ := hlate
    have hs : ¬(s.axis n).sampledAB = true := fun h => nomatch h.symm.trans hsampled
    have axis : ((s.sampleAB n entries channels.events).reachLog channels.log).axis n =
        (s.sampleAB n entries channels.events).axis n :=
      congrArg (fun b => Bank.read b n) (OnlyFiring.axes (State.reachLog_only _ _))
    refine ⟨_, rfl, ?_⟩
    rw [State.showAxis_ab_of_late hs hr hp, State.showAxis_ab_self hs, AxisInput.log, AxisInput.log, axis]
    exact State.reachLog_setAxis _ _ _ _
  · next hfree =>
    refine ⟨_, State.reachLog_reached _ _, everyOrder_of_exec fun _ => rfl, ?_⟩
    intro faulted
    split
    · next hs => exact State.showAxis_ab_of_sampled hs
    · next hs =>
      have compared : ∀ order : ChannelOrder, s.showAxis n (.ab a b entries order) =
          (s.setAxis n y).applyDecoded n d entries order.events := fun order =>
        (State.showAxis_ab_of_free hs fun h => hfree ⟨eq_false_of_ne_true hs, h⟩).trans (s.sampleAB_of_shown n a b entries _)
      clear_value d
      split
      · next hc => exact (compared channels).trans (State.applyDecoded_of_idle hc)
      · next hc =>
        have counting : y.state = .counting := not_not.mp hc
        cases d with
        | nothing => exact (compared channels).trans State.applyDecoded_nothing
        | phaseError => exact State.faulted_of_eq ((compared channels).trans (State.applyDecoded_phaseError counting))
        | step up =>
          have turned : (up != y.invert) = if x.invert then !up else up := bne_eq_ite_not up x.invert
          dsimp only
          rw [← turned]
          cases hz : y.stepped (up != y.invert) with
          | none => exact State.faulted_of_eq ((compared channels).trans (State.applyDecoded_withheld counting hz))
          | some z =>
            have moved := fun order => (compared order).trans (State.applyDecoded_moved counting hz)
            dsimp only
            rw [moved channels]
            exact stepOffered_reached (run := fun l => exec (.axisLevelChange n (.ab a b entries { channels with events := l })) s)
              (fun l => congrArg (fun v : State => Host.Outcome.next (v.reachLog channels.log))
                (moved { channels with events := l })) channels.events

end Sys2Proof.Machine

/-! ## What a hit and an offer do at the entries and the gates (R99 to R101, R107, R108) -/

namespace Sys2Proof.Machine

/-! ### A hit -/

/-- An entry after a hit: recorded, and with its pulse request suppressed while a pulse is driven (R100, R101). -/
def Entry.hitAt (stamp : Stamp) (drive : DriveState) (x : Entry) : Entry :=
  { x.recordHit stamp with
    suppressed := if x.markFlag = true ∧ drive = .driving then countUp x.suppressed else x.suppressed }

theorem State.requestMark_entry_same (s : State) (e : EntryId) :
    (s.requestMark e).entry e =
      if s.mark.drive = .driving then { s.entry e with suppressed := countUp (s.entry e).suppressed } else s.entry e := by
  unfold State.requestMark
  cases s.mark.drive with
  | idle => rfl
  | driving => exact s.setEntry_entry_same e _

theorem State.hitTold_entry_same (s : State) (e : EntryId) : (s.hitTold e).entry e = (s.entry e).recordHit s.stamp := by
  have told := State.raiseToOwner_if_only (s.setEntry e ((s.entry e).recordHit s.stamp)) ((s.entry e).event = true)
    (.entry e) (.cmpHit e)
  exact (congrArg (fun b => Bank.read b e) told.entries).trans (s.setEntry_entry_same e _)

theorem State.hit_entry_same (s : State) (e : EntryId) : (s.hit e).entry e = (s.entry e).hitAt s.stamp s.mark.drive := by
  rw [State.hit_eq]
  unfold Entry.hitAt
  by_cases hm : (s.entry e).markFlag = true
  · rw [if_pos hm, State.requestMark_entry_same, State.hitTold_mark, State.hitTold_entry_same]
    simp only [hm, true_and]
    split <;> rfl
  · rw [if_neg hm, State.hitTold_entry_same, if_neg fun ⟨flag, _⟩ => hm flag]
    rfl

/-- A hit leaves every met flag as it is (R100). -/
theorem State.hit_met (s : State) (e k : EntryId) : ((s.hit e).entry k).met = (s.entry k).met := by
  by_cases h : k = e
  · rw [h, State.hit_entry_same]
    rfl
  · rw [State.hit_entry_ne _ h]

theorem OnlySessions.gates {s t : State} (h : OnlySessions s t) : t.gates = s.gates := by rw [h]

theorem State.requestMark_gates (s : State) (e : EntryId) : (s.requestMark e).gates = s.gates := by
  unfold State.requestMark
  split <;> rfl

/-- A hit reaches each gate as R108 states. -/
theorem State.hit_gate (s : State) (e : EntryId) (g : GateId) : (s.hit e).gate g = (s.gate g).hit e := by
  have told := State.raiseToOwner_if_only (s.setEntry e ((s.entry e).recordHit s.stamp)) ((s.entry e).event = true)
    (.entry e) (.cmpHit e)
  have pulsed : (s.hitTold e).gate g = (s.gate g).hit e :=
    (State.pulseGates_gate _ e g).trans (congrArg (fun b => (Bank.read b g).hit e) told.gates)
  rw [State.hit_eq]
  split
  · rw [State.gate, State.requestMark_gates]
    exact pulsed
  · exact pulsed

/-! ### An offer at one entry -/

section
variable {kind : OfferKind} {v : Int} {s : State} {e : EntryId}

theorem State.offerEntry_of_disabled (h : (s.entry e).enabled = false) : State.offerEntry kind v s e = s := by
  simp [State.offerEntry, h]

/-- A STEP that turns met true is a hit (R99). -/
theorem State.offerEntry_of_hit (h : (s.entry e).enabled = true) (hm : (s.entry e).met = false)
    (hc : (s.entry e).condition v = true) : State.offerEntry .step v s e = (s.setMet e true).hit e := by
  simp [State.offerEntry, h, hm, hc]

/-- Any other offer at an ENABLED entry takes met from the condition alone (R99). -/
theorem State.offerEntry_of_noHit (h : (s.entry e).enabled = true)
    (hn : ¬(kind = .step ∧ (s.entry e).met = false ∧ (s.entry e).condition v = true)) :
    State.offerEntry kind v s e = s.setMet e ((s.entry e).condition v) := by
  unfold State.offerEntry
  simp only [h, Bool.not_true, Bool.false_eq_true, if_false, Bool.not_eq_true']
  exact if_neg (by simpa using hn)

end

/-- The entry that an offer leaves, case by case (R99, R100). -/
theorem State.offerEntry_entry_same (kind : OfferKind) (v : Int) (s : State) (e : EntryId) :
    let x := s.entry e
    let y := (State.offerEntry kind v s e).entry e
    (x.enabled = false ∧ y = x) ∨
      (x.enabled = true ∧ (y = { x with met := x.condition v } ∨
        x.condition v = true ∧ y = Entry.hitAt s.stamp s.mark.drive { x with met := true })) := by
  intro x y
  by_cases he : x.enabled = true
  · refine .inr ⟨he, ?_⟩
    by_cases hhit : kind = .step ∧ x.met = false ∧ x.condition v = true
    · obtain ⟨rfl, hm, hc⟩ := hhit
      have only := s.setMet_only e true
      have stamp : (s.setMet e true).stamp = s.stamp := by rw [only]; rfl
      refine .inr ⟨hc, ?_⟩
      calc y = ((s.setMet e true).hit e).entry e := by rw [← State.offerEntry_of_hit he hm hc]
        _ = _ := by rw [State.hit_entry_same, stamp, only.mark, State.setMet_entry, if_pos rfl]
    · refine .inl ?_
      calc y = (s.setMet e (x.condition v)).entry e := by rw [← State.offerEntry_of_noHit he hhit]
        _ = _ := by rw [State.setMet_entry, if_pos rfl]
  · have disabled := eq_false_of_ne_true he
    exact .inl ⟨disabled, congrArg (fun t : State => t.entry e) (State.offerEntry_of_disabled disabled)⟩

/-! ### The gates that follow (R107) -/

theorem State.GatesFollow.of_met {s t u : State} (h : s.GatesFollow t) (hg : u.gates = t.gates)
    (hm : ∀ e, (u.entry e).met = (t.entry e).met) : s.GatesFollow u := fun g => by
  have gate : u.gate g = t.gate g := congrArg (fun b => Bank.read b g) hg
  rw [gate, h g, State.gateLevel_congr fun _ => State.anyMet_congr fun e _ => hm e]

/-- An entry replaced is handed to the FOLLOW gates that have it among their sources, and no other gate shows it (R107). -/
theorem State.GatesFollow.followGates {s t : State} (h : s.GatesFollow t) (e : EntryId) (x : Entry) :
    s.GatesFollow ((t.setEntry e x).followGates e) := fun g => by
  have level : ∀ y, ((t.setEntry e x).followGates e).gateLevel y = (t.setEntry e x).gateLevel y := fun _ => rfl
  rw [State.followGates_gate, State.setEntry_gate, h g, level]
  unfold State.followGate
  split
  · rfl
  · next hf =>
    rw [State.gateLevel_congr fun hm => State.anyMet_congr fun k hk => ?_]
    rw [State.setEntry_entry_ne _ _ _ fun he : k = e => hf ⟨hm, he ▸ hk⟩]

theorem State.GatesFollow.replaceEntry {s t : State} (h : s.GatesFollow t) (e : EntryId) (x : Entry) :
    s.GatesFollow (t.replaceEntry e x) := by
  unfold State.replaceEntry
  dsimp only
  split
  · next hm =>
    refine h.of_met rfl fun k => ?_
    rw [State.setEntry_entry]
    split
    · next hk => rw [hk, hm]
    · rfl
  · exact h.followGates e x

end Sys2Proof.Machine

/-! ## What entries and gates may do (R92, R93, R106 to R110, R113, R114) -/

namespace Sys2Proof.Machine

/-! ### The moves of an entry -/

/-- What of an entry does not depend on the count of its axis: met false in DISABLED, its counts and its bound b in range (R92, R93). -/
def Entry.bounded (x : Entry) : Prop :=
  (x.enabled = false → x.met = false) ∧ x.hits ≤ Config.countLimit ∧ x.suppressed ≤ Config.countLimit ∧
    (x.kind.usesB = false → x.b = 0)

theorem Entry.ok_iff {s : State} {x : Entry} :
    x.ok s ↔ x.bounded ∧ (x.enabled = true → x.met = x.condition (s.axis x.axis).count) :=
  ⟨fun ⟨hdisabled, henabled, hhits, hsuppressed, hb⟩ => ⟨⟨hdisabled, hhits, hsuppressed, hb⟩, henabled⟩,
    fun ⟨⟨hdisabled, hhits, hsuppressed, hb⟩, henabled⟩ => ⟨hdisabled, henabled, hhits, hsuppressed, hb⟩⟩

theorem Entry.ok.bounded {s : State} {x : Entry} (h : x.ok s) : x.bounded := by
  obtain ⟨bounded, _⟩ := Entry.ok_iff.mp h
  exact bounded

/-- An entry with other values of its enable and met, as an ENABLED or DISABLED one may have them. -/
theorem Entry.bounded.setMet {x : Entry} (h : x.bounded) {enabled met : Bool} (hm : enabled = false → met = false) :
    Entry.bounded { x with enabled := enabled, met := met } := by
  obtain ⟨-, hhits, hsuppressed, hb⟩ := h
  exact ⟨hm, hhits, hsuppressed, hb⟩

/-- A hit counts up to 255, and so does a suppressed pulse (R100, R101). -/
theorem Entry.bounded.hitAt {x : Entry} (h : x.bounded) (stamp : Stamp) (drive : DriveState) : (x.hitAt stamp drive).bounded := by
  obtain ⟨hdisabled, hhits, hsuppressed, hb⟩ := h
  refine ⟨hdisabled, saturate_le hhits, ?_, hb⟩
  unfold Entry.hitAt
  split
  · exact saturate_le hsuppressed
  · exact hsuppressed

/-- An offered entry is bounded as before, watches the axis it watched, and in ENABLED has met equal to its condition (R92, R99). -/
theorem State.offerEntry_settles (kind : OfferKind) (v : Int) (s : State) (e : EntryId) (h : (s.entry e).bounded) :
    let y := (State.offerEntry kind v s e).entry e
    y.bounded ∧ y.axis = (s.entry e).axis ∧ (y.enabled = true → y.met = y.condition v) := by
  intro y
  rcases State.offerEntry_entry_same kind v s e with ⟨hd, he⟩ | ⟨henabled, he | ⟨hc, he⟩⟩ <;> (dsimp only [y]; rw [he])
  · exact ⟨h, rfl, fun ht => nomatch hd.symm.trans ht⟩
  · exact ⟨h.setMet fun hd => (nomatch henabled.symm.trans hd), rfl, fun _ => rfl⟩
  · exact ⟨(h.setMet fun hd => nomatch henabled.symm.trans hd).hitAt _ _, rfl, fun _ => hc.symm⟩

/-! ### The moves of a gate -/

/-- Whether a gate is as its mode has it depends on the met flags alone (R106). -/
theorem Gate.ok.congr {s t : State} {x : Gate} (hm : ∀ e, (t.entry e).met = (s.entry e).met) (h : x.ok s) : x.ok t := by
  obtain ⟨houtput, hrest⟩ := h
  exact ⟨houtput.trans (State.gateLevel_congr fun _ => State.anyMet_congr fun e _ => (hm e).symm), hrest⟩

/-- A gate that recomputes its output is as its mode has it (R107). -/
theorem Gate.ok.recomputed {s t : State} {x : Gate} (h : x.ok s) : Gate.ok t { x with output := t.gateLevel x } := by
  obtain ⟨-, hrest⟩ := h
  exact ⟨rfl, hrest⟩

/-- A hit starts the pulse of a PULSE gate at its full width (R108). -/
theorem Gate.ok.hit {s : State} {x : Gate} (h : x.ok s) (e : EntryId) : (x.hit e).ok s := by
  unfold Gate.hit
  split
  · next hp =>
    obtain ⟨hmode, -⟩ := hp
    obtain ⟨-, -, -, hmin, hmax, -⟩ := h
    have level : s.gateLevel { x with remaining := x.width, output := .active, endDue := false } = .active := by
      simp only [State.gateLevel, hmode]
      exact if_pos hmin
    exact ⟨level.symm, fun hne => absurd hmode hne, le_rfl, hmin, hmax, nofun⟩
  · exact h

/-- The pulse of a gate counts to 1, and then owes its end (R108, R112). -/
theorem Gate.ok.tick {s : State} {x : Gate} (h : x.ok s) : x.tick.ok s := by
  unfold Gate.tick
  split
  · exact h
  · next hpos =>
    obtain ⟨houtput, hmode, hwidth, hmin, hmax, hdue⟩ := h
    split
    · next hmany =>
      have pulse : x.mode = .pulse := not_not.mp fun hne => hpos (hmode hne)
      have level : s.gateLevel { x with remaining := x.remaining - 1 } = s.gateLevel x := by
        simp only [State.gateLevel, pulse]
        rw [if_pos (by omega), if_pos (by omega)]
      exact ⟨houtput.trans level.symm, fun hne => absurd pulse hne, by dsimp only; omega, hmin, hmax,
        fun hd => absurd (hdue hd) (by omega)⟩
    · exact ⟨houtput, hmode, hwidth, hmin, hmax, fun _ => by dsimp only; omega⟩

/-- A pulse that is owed its end is that of a PULSE gate, which the end leaves INACTIVE (R108). -/
theorem Gate.ok.pulseEnd {s : State} {x : Gate} (h : x.ok s) (hd : x.endDue = true) :
    Gate.ok s { x with remaining := 0, output := .inactive, endDue := false } := by
  obtain ⟨-, hmode, -, hmin, hmax, hdue⟩ := h
  have pulse : x.mode = .pulse := not_not.mp fun hne => by
    have := hmode hne
    have := hdue hd
    omega
  have level : s.gateLevel { x with remaining := 0, output := .inactive, endDue := false } = .inactive := by
    simp only [State.gateLevel, pulse]
    exact if_neg (lt_irrefl 0)
  exact ⟨level.symm, fun _ => rfl, Nat.zero_le _, hmin, hmax, nofun⟩

/-- A parked gate is MANUAL and INACTIVE (R114). -/
theorem Gate.ok.parked {s : State} {x : Gate} (h : x.ok s) : x.parked.ok s := by
  obtain ⟨-, -, -, hmin, hmax, -⟩ := h
  exact ⟨rfl, fun _ => rfl, Nat.zero_le _, hmin, hmax, nofun⟩

/-- A gate configured anew, without a pulse and with the output its mode gives (R109). -/
theorem Gate.setup_ok (s : State) (x : Gate) (mode : GateMode) (polarity : Polarity) (sources : EntrySet) {width : Nat}
    (hmin : 1 ≤ width) (hmax : width ≤ 65535) :
    let y := { x with mode := mode, polarity := polarity, sources := sources, width := width, remaining := 0, endDue := false }
    Gate.ok s { y with output := s.gateLevel y } :=
  ⟨rfl, fun _ => rfl, Nat.zero_le _, hmin, hmax, nofun⟩

/-- A manual level is what a MANUAL gate shows, and no other gate (R110). -/
theorem Gate.ok.setManual {s : State} {x : Gate} (h : x.ok s) (level : Activity) :
    Gate.ok s { x with manual := level, output := if x.mode = .manual then level else x.output } := by
  obtain ⟨houtput, hrest⟩ := h
  refine ⟨?_, hrest⟩
  rw [houtput]
  unfold State.gateLevel
  cases x.mode <;> rfl

end Sys2Proof.Machine

/-! ## What a happening may do to entries and gates (O9, O10) -/

namespace Sys2Proof.Machine

/-- From `s` to `t` no entry has come out of what R92 and R93 state, and no gate out of what R106 states. -/
structure KeepsCompare (s t : State) : Prop where
  entries : s.entriesOk → t.entriesOk
  gates : s.gatesOk → t.gatesOk

namespace KeepsCompare

@[refl] theorem refl (s : State) : KeepsCompare s s := ⟨id, id⟩

theorem trans (s t u : State) (h : KeepsCompare s t) (k : KeepsCompare t u) : KeepsCompare s u :=
  ⟨k.entries ∘ h.entries, k.gates ∘ h.gates⟩

/-- A fold of operations that keep entries and gates keeps them. -/
theorem foldl {α : Type} (f : State → α → State) (h : ∀ t x, KeepsCompare t (f t x)) (l : List α) (s : State) :
    KeepsCompare s (l.foldl f s) := foldl_reaches KeepsCompare refl trans f h l s

/-- A choice between operations that keep entries and gates keeps them. -/
theorem ite {b : Prop} [Decidable b] {s t u : State} (h : KeepsCompare s t) (k : KeepsCompare s u) :
    KeepsCompare s (if b then t else u) := by
  split
  · exact h
  · exact k

/-- A change that leaves entries, gates and the counts of the axes as they are. -/
theorem of_counts {s t : State} (he : t.entries = s.entries) (hg : t.gates = s.gates)
    (hn : ∀ n, (t.axis n).count = (s.axis n).count) : KeepsCompare s t := by
  have entry : ∀ e, t.entry e = s.entry e := fun e => congrArg (fun b => Bank.read b e) he
  have gate : ∀ g, t.gate g = s.gate g := fun g => congrArg (fun b => Bank.read b g) hg
  refine ⟨fun h e => ?_, fun h g => gate g ▸ (h g).congr fun e => by rw [entry]⟩
  rw [entry, Entry.ok_iff, hn, ← Entry.ok_iff]
  exact h e

/-- A change of other units alone. -/
theorem of_others {s t : State}
    (h : t = { s with time := t.time, mark := t.mark, lines := t.lines, channels := t.channels, log := t.log
                      underway := t.underway, sessions := t.sessions, claims := t.claims, ports := t.ports
                      executor := t.executor, discards := t.discards, pending := t.pending }) : KeepsCompare s t := by
  rw [h]
  exact of_counts rfl rfl fun _ => rfl

end KeepsCompare

theorem OnlySessions.keepsCompare {s t : State} (h : OnlySessions s t) : KeepsCompare s t := by
  rw [h]; exact .of_others rfl
theorem OnlyLog.keepsCompare {s t : State} (h : OnlyLog s t) : KeepsCompare s t := by
  rw [h]; exact .of_others rfl
theorem OnlyEvents.keepsCompare {s t : State} (h : OnlyEvents s t) : KeepsCompare s t := by
  rw [h]; exact .of_others rfl
theorem OnlyFiring.keepsCompare {s t : State} (h : OnlyFiring s t) : KeepsCompare s t := by
  rw [h]; exact .of_others rfl
theorem OnlyLines.keepsCompare {s t : State} (h : OnlyLines s t) : KeepsCompare s t := by
  rw [h]; exact .of_others rfl
theorem OnlyEdge.keepsCompare {s t : State} (h : OnlyEdge s t) : KeepsCompare s t := by
  rw [h]; exact .of_others rfl
theorem OnlyPorts.keepsCompare {s t : State} (h : OnlyPorts s t) : KeepsCompare s t := by
  rw [h]; exact .of_others rfl

theorem State.setSession_keepsCompare (s : State) (p : PortId) (x : Option Session) : KeepsCompare s (s.setSession p x) :=
  .of_others rfl
theorem State.setOwner_keepsCompare (s : State) (r : Resource) (o : Option PortId) : KeepsCompare s (s.setOwner r o) :=
  .of_others rfl
theorem State.setPort_keepsCompare (s : State) (p : PortId) (q : Port) : KeepsCompare s (s.setPort p q) := .of_others rfl
theorem State.discardQueues_keepsCompare (s : State) (p : PortId) (kept : Nat) : KeepsCompare s (s.discardQueues p kept) :=
  .of_others rfl

/-! ### Gates -/

/-- Gates moved each by itself, with the met flags as they were. -/
theorem State.gatesOk_of_moves {s t : State} (hm : ∀ e, (t.entry e).met = (s.entry e).met)
    (h : ∀ g, (s.gate g).ok s → (t.gate g).ok s) (hs : s.gatesOk) : t.gatesOk := fun g => (h g (hs g)).congr hm

/-- Gates that have followed the entries are as their modes have them (R107). -/
theorem State.GatesFollow.gatesOk {s t : State} (h : s.GatesFollow t) (hs : s.gatesOk) : t.gatesOk := fun g => by
  rw [h g]
  exact (hs g).recomputed

/-- A gate set to what it may be. -/
theorem State.setGate_keepsCompare {s : State} {g : GateId} {x : Gate} (h : (s.gate g).ok s → x.ok s) :
    KeepsCompare s (s.setGate g x) := by
  refine ⟨id, State.gatesOk_of_moves (fun _ => rfl) fun k hk => ?_⟩
  rw [State.setGate_gate]
  split
  · next hkg => exact h (hkg ▸ hk)
  · exact hk

theorem State.takeGatePulseEnd_keepsCompare (s : State) (g : GateId) : KeepsCompare s (s.takeGatePulseEnd g) := by
  unfold State.takeGatePulseEnd
  dsimp only
  split
  · next hd => exact State.setGate_keepsCompare fun h => h.pulseEnd hd
  · exact KeepsCompare.refl s

/-! ### Entries -/

/-- An entry replaced by one that is as R92 and R93 state, and the gates that follow it (R96 to R98, R107, R113). -/
theorem State.replaceEntry_keepsCompare {s : State} {e : EntryId} {x : Entry} (h : (s.entry e).ok s → x.ok s) :
    KeepsCompare s (s.replaceEntry e x) := by
  refine ⟨fun hs k => ?_, fun hs => ((State.gatesFollow_self hs).replaceEntry e x).gatesOk hs⟩
  have same : ∀ y : Entry, y.ok s → y.ok (s.replaceEntry e x) := fun y hy => by
    rwa [Entry.ok_iff, State.axis, (s.replaceEntry_only e x).axes, ← State.axis, ← Entry.ok_iff]
  rw [State.replaceEntry_entry]
  split
  · exact same x (h (hs e))
  · exact same _ (hs k)

/-- A hit keeps the gates as their modes have them (R108). -/
theorem State.hit_gatesOk {s : State} (e : EntryId) (h : s.gatesOk) : (s.hit e).gatesOk :=
  State.gatesOk_of_moves (s.hit_met e) (fun g hg => by rw [State.hit_gate]; exact hg.hit e) h

theorem State.offerEntry_gatesOk (kind : OfferKind) (v : Int) (s : State) (e : EntryId) (h : s.gatesOk) :
    (State.offerEntry kind v s e).gatesOk := by
  have met : ∀ b, (s.setMet e b).gatesOk := fun b => ((State.gatesFollow_self h).setMet e b).gatesOk h
  unfold State.offerEntry
  dsimp only
  split
  · exact h
  · split
    · exact State.hit_gatesOk e (met _)
    · exact met _

/-- A count offered to all entries of its axis leaves every entry as R92 states, when the others were so before (R99). -/
theorem State.foldl_offerEntry_entriesOk (kind : OfferKind) {n : AxisId} {v : Int} (l : List EntryId) {s : State}
    (hv : (s.axis n).count = v) (haxis : ∀ e ∈ l, (s.entry e).axis = n) (hbounded : ∀ e, (s.entry e).bounded)
    (hok : ∀ e, e ∉ l → (s.entry e).ok s) : (l.foldl (State.offerEntry kind v) s).entriesOk := by
  induction l generalizing s with
  | nil => exact fun e => hok e List.not_mem_nil
  | cons e l ih =>
    obtain ⟨hb, ha, hm⟩ := State.offerEntry_settles kind v s e (hbounded e)
    have axis : ∀ k, (State.offerEntry kind v s e).axis k = s.axis k := fun k =>
      congrArg (fun b => Bank.read b k) (State.offerEntry_only kind v s e).axes
    refine ih ((congrArg Axis.count (axis n)).trans hv) (fun k hk => ?_) (fun k => ?_) fun k hk => ?_ <;>
      by_cases hke : k = e
    · subst hke
      exact ha.trans (haxis k List.mem_cons_self)
    · rw [State.offerEntry_entry_ne _ _ _ hke]
      exact haxis k (List.mem_cons_of_mem e hk)
    · subst hke
      exact hb
    · rw [State.offerEntry_entry_ne _ _ _ hke]
      exact hbounded k
    · subst hke
      refine Entry.ok_iff.mpr ⟨hb, fun henabled => ?_⟩
      rw [axis, ha, haxis k List.mem_cons_self, hv]
      exact hm henabled
    · rw [State.offerEntry_entry_ne _ _ _ hke, Entry.ok_iff, axis, ← Entry.ok_iff]
      exact hok k fun hmem => (List.mem_cons.mp hmem).elim hke hk

/-! ### Axes (R72, R75 to R83, R87) -/

/-- An axis that keeps its count. -/
theorem State.setAxis_keepsCompare {s : State} {n : AxisId} {x : Axis} (h : x.count = (s.axis n).count) :
    KeepsCompare s (s.setAxis n x) := by
  refine .of_counts rfl rfl fun k => ?_
  rw [State.setAxis_axis]
  split
  · next hk => rw [hk, h]
  · rfl

/-- An axis set anew, which then offers its count: every entry of the axis takes the offer (R83, R99). -/
theorem State.setAxis_offer_keepsCompare (s : State) (n : AxisId) (x : Axis) (kind : OfferKind) (order : List EntryId) :
    KeepsCompare s ((s.setAxis n x).offer n kind order) := by
  refine ⟨fun hs => ?_, fun hs => foldl_preserves State.gatesOk _ (State.offerEntry_gatesOk kind _) _ _ hs⟩
  refine State.foldl_offerEntry_entriesOk kind _ rfl (fun e => (State.mem_watchers _ n order e).mp)
    (fun e => (hs e).bounded) fun e he => ?_
  have other : (s.entry e).axis ≠ n := fun ha => he ((State.mem_watchers _ n order e).mpr ha)
  rw [State.setAxis_entry, Entry.ok_iff, State.setAxis_axis_ne _ _ _ other, ← Entry.ok_iff]
  exact hs e

theorem State.faultAxis_keepsCompare {s : State} {n : AxisId} {x : Axis} (h : x.count = (s.axis n).count) (cause : FaultCause) :
    KeepsCompare s (s.faultAxis n x cause) := by
  have faulted : KeepsCompare s (s.setAxis n { x with state := .faulted, cause := cause }) := State.setAxis_keepsCompare h
  exact KeepsCompare.trans _ _ _ faulted (State.raiseToOwner_only _ _ _).keepsCompare

/-- A comparison that moves the count offers it; one that withholds it leaves it (R75 to R78). -/
theorem State.applyDecoded_keepsCompare (s : State) (n : AxisId) (d : Decoded) (entries : List EntryId)
    (channels : List ChannelId) : KeepsCompare s (s.applyDecoded n d entries channels) := by
  unfold State.applyDecoded
  dsimp only
  split
  · exact KeepsCompare.refl s
  · split
    · exact KeepsCompare.refl s
    · refine State.faultAxis_keepsCompare ?_ _
      rfl
    · split
      · exact KeepsCompare.trans _ _ _ (s.setAxis_offer_keepsCompare n _ .step entries)
          (State.triggerEvents_only _ _).keepsCompare
      · exact State.faultAxis_keepsCompare rfl _

theorem State.sampleAB_keepsCompare (s : State) (n : AxisId) (entries : List EntryId) (channels : List ChannelId) :
    KeepsCompare s (s.sampleAB n entries channels) := by
  unfold State.sampleAB
  dsimp only
  refine KeepsCompare.trans _ _ _ ?_ (State.applyDecoded_keepsCompare _ n _ entries channels)
  exact State.setAxis_keepsCompare rfl

theorem State.sampleZ_keepsCompare (s : State) (n : AxisId) (channels : List ChannelId) :
    KeepsCompare s (s.sampleZ n channels) := by
  have sampled : KeepsCompare s
      (s.setAxis n { s.axis n with z := (s.axis n).z.sample (s.axis n).sampleFilter, sampledZ := true }) :=
    State.setAxis_keepsCompare rfl
  unfold State.sampleZ
  dsimp only
  exact KeepsCompare.ite (KeepsCompare.trans _ _ _ sampled (State.triggerEvents_only _ _).keepsCompare) sampled

theorem State.showAxis_keepsCompare (s : State) (n : AxisId) (input : AxisInput) : KeepsCompare s (s.showAxis n input) := by
  cases input with
  | ab a b entries channels =>
    have shown : ∀ t : State, KeepsCompare t (t.setAxis n ((t.axis n).show a b)) := fun _ => State.setAxis_keepsCompare rfl
    have sampled := s.sampleAB_keepsCompare n entries channels.events
    exact KeepsCompare.ite (shown s) (KeepsCompare.ite (KeepsCompare.trans _ _ _ sampled (shown _))
      (KeepsCompare.trans _ _ _ (shown s) (State.sampleAB_keepsCompare _ n _ _)))
  | z z channels =>
    have shown : KeepsCompare s (s.setAxis n { s.axis n with z := { (s.axis n).z with raw := z } }) :=
      State.setAxis_keepsCompare rfl
    exact KeepsCompare.ite shown (KeepsCompare.trans _ _ _ shown (State.sampleZ_keepsCompare _ n _))

/-! ### Parks, closes and resets (R113 to R115, R138, R142) -/

/-- An entry set to DISABLED keeps its counts and its bounds (R98, R113). -/
theorem Entry.ok.parked {s : State} {x : Entry} (h : x.ok s) : x.parked.ok s :=
  Entry.ok_iff.mpr ⟨h.bounded.setMet fun _ => rfl, nofun⟩

theorem State.park_keepsCompare (s : State) (r : Resource) : KeepsCompare s (s.park r) := by
  cases r with
  | axis _ => exact KeepsCompare.refl s
  | channel c => exact (s.setChannel_only c _).keepsCompare
  | entry e => exact State.replaceEntry_keepsCompare Entry.ok.parked
  | gate g => exact State.setGate_keepsCompare Gate.ok.parked
  | mark => exact (s.setTime_only _).keepsCompare

theorem State.giveUp_keepsCompare (s : State) (r : Resource) : KeepsCompare s (s.giveUp r) :=
  KeepsCompare.trans _ _ _ (s.setOwner_keepsCompare r none) (State.park_keepsCompare _ r)

theorem State.closeSession_keepsCompare (s : State) (p : PortId) : KeepsCompare s (s.closeSession p) := by
  have given : KeepsCompare s (allResources.foldl (State.giveUpOwned p) s) :=
    KeepsCompare.foldl _ (fun t r => KeepsCompare.ite (t.giveUp_keepsCompare r) (KeepsCompare.refl t)) allResources s
  rw [s.closeSession_eq]
  exact KeepsCompare.trans _ _ _ given (State.setSession_keepsCompare _ p none)

theorem State.closeAll_keepsCompare (s : State) : KeepsCompare s s.closeAll :=
  KeepsCompare.foldl _ (fun t p => KeepsCompare.ite (t.closeSession_keepsCompare p) (KeepsCompare.refl t)) allPorts s

theorem State.expire_keepsCompare (s : State) (p : PortId) : KeepsCompare s (s.expire p) :=
  KeepsCompare.trans _ _ _ (KeepsCompare.trans _ _ _ (s.closeSession_keepsCompare p)
    (State.discardQueues_keepsCompare _ p 0)) (State.setPort_keepsCompare _ p _)

theorem State.takeExpiry_keepsCompare (s : State) (p : PortId) : KeepsCompare s (s.takeExpiry p) :=
  KeepsCompare.ite (s.expire_keepsCompare p) (KeepsCompare.refl s)

theorem State.expireLast_keepsCompare (s : State) (p : PortId) : KeepsCompare s (s.expireLast p) :=
  KeepsCompare.ite (s.expire_keepsCompare p) (KeepsCompare.refl s)

/-- Entries and gates at their reset values are as R92, R93 and R106 state (R115). -/
theorem KeepsCompare.of_reset {s t : State} (he : ∀ e, t.entry e = Entry.reset) (hg : ∀ g, t.gate g = Gate.reset) :
    KeepsCompare s t := ⟨fun _ e => he e ▸ Entry.reset_ok t, fun _ g => hg g ▸ Gate.reset_ok t⟩

theorem State.resetBlocks_keepsCompare (s : State) : KeepsCompare s s.resetBlocks :=
  .of_reset (Bank.read_replicate _) (Bank.read_replicate _)

theorem State.pinReset_keepsCompare (s : State) : KeepsCompare s s.pinReset :=
  .of_reset State.reset_entry State.reset_gate

/-! ### Host ports (R134, R162 to R168) -/

theorem State.endTransaction_keepsCompare (s : State) (p : PortId) (received : List Byte) :
    KeepsCompare s (s.endTransaction p received) := by
  have before : KeepsCompare s (s.beforeFrame p) := KeepsCompare.ite (s.expire_keepsCompare p) (KeepsCompare.refl s)
  unfold State.endTransaction
  dsimp only
  split
  · exact KeepsCompare.refl s
  · exact KeepsCompare.refl s
  · split
    · exact s.setPort_keepsCompare p _
    · exact s.setPort_keepsCompare p _
    · exact KeepsCompare.trans _ _ _ (KeepsCompare.trans _ _ _ before (State.setPort_keepsCompare _ p _))
        (State.reloadTimer_only _ p).keepsCompare

end Sys2Proof.Machine

/-! ## Every step keeps entries and gates (O9, O10) -/

namespace Sys2Proof.Machine

/-! ### The requests (R95 to R98, R109, R110, R172) -/

/-- A request that keeps entries and gates. -/
def Server.KeepsCompare (serve : Server) : Prop := ∀ p payload s, Leaves (Machine.KeepsCompare s) (serve p payload s)

/-- A request that only reports keeps entries and gates. -/
theorem leaves_report_keepsCompare {s : State} (payload : List Byte) : Leaves (KeepsCompare s) (.ok (payload, s)) :=
  leaves_ok (KeepsCompare.refl s)

/-- An entry configured anew is DISABLED, with a cleared hit record, and has no bound b where its kind uses none (R95, R96). -/
theorem Entry.setup_ok (s : State) (n : AxisId) (kind : CompareKind) (a b : Int) (event markFlag : Bool) :
    Entry.ok s { axis := n, kind := kind, a := a, b := if kind.usesB then b else 0, event := event, markFlag := markFlag
                 enabled := false, met := false, hits := 0, lastHit := none, suppressed := 0 } :=
  ⟨fun _ => rfl, nofun, Nat.zero_le _, Nat.zero_le _, fun hb => by simp [hb]⟩

/-- An entry enabled takes met from its condition on the count of its axis (R97). -/
theorem Entry.ok.enable {s : State} {x : Entry} (h : x.ok s) :
    Entry.ok s { x with enabled := true, met := x.condition (s.axis x.axis).count } :=
  Entry.ok_iff.mpr ⟨h.bounded.setMet nofun, fun _ => rfl⟩

theorem cmpSetupServer_keepsCompare : Server.KeepsCompare cmpSetupServer := fun _ _ s =>
  leaves_sessionRequest fun _ _ _ => leaves_bind fun _ _ => leaves_bind fun _ _ => leaves_bind fun _ _ =>
    leaves_bind fun _ _ => leaves_bind fun _ _ => leaves_bind fun _ _ => leaves_bind fun _ _ =>
      leaves_ok (State.replaceEntry_keepsCompare fun _ => Entry.setup_ok s _ _ _ _ _ _)

theorem cmpEnableServer_keepsCompare : Server.KeepsCompare cmpEnableServer := fun _ _ _ =>
  leaves_sessionRequest fun _ _ _ => leaves_bind fun _ _ => leaves_bind fun _ _ =>
    leaves_ok (State.replaceEntry_keepsCompare Entry.ok.enable)

theorem cmpDisableServer_keepsCompare : Server.KeepsCompare cmpDisableServer := fun _ _ _ =>
  leaves_sessionRequest fun _ _ _ => leaves_bind fun _ _ => leaves_bind fun _ _ =>
    leaves_ok (State.replaceEntry_keepsCompare Entry.ok.parked)

theorem gateSetupServer_keepsCompare : Server.KeepsCompare gateSetupServer := fun _ payload s =>
  leaves_sessionRequest fun _ _ _ => leaves_bind fun g _ => leaves_bind fun mode _ => leaves_bind fun polarity _ =>
    leaves_bind fun sources _ => leaves_bind fun _ hwidth => leaves_bind fun _ _ =>
      leaves_ok (State.setGate_keepsCompare fun _ => Gate.setup_ok s (s.gate g) mode polarity sources
        (decide_eq_true_eq.mp (require_ok hwidth)) (natAt_two_le payload 7))

theorem gateSetServer_keepsCompare : Server.KeepsCompare gateSetServer := fun _ _ _ =>
  leaves_sessionRequest fun _ _ _ => leaves_bind fun _ _ => leaves_bind fun level _ => leaves_bind fun _ _ =>
    leaves_ok (State.setGate_keepsCompare fun h => h.setManual level)

theorem axisSetupServer_keepsCompare : Server.KeepsCompare axisSetupServer := fun _ _ s =>
  leaves_sessionRequest fun _ _ _ => leaves_bind fun n _ => leaves_bind fun mode _ => leaves_bind fun _ _ =>
    leaves_bind fun _ _ => leaves_bind fun _ _ => leaves_ok (State.setAxis_keepsCompare (by
      have count : ((s.axis n).setMode mode).count = (s.axis n).count := by
        unfold Axis.setMode
        split <;> [rfl; (split <;> rfl)]
      exact count))

theorem axisSpanServer_keepsCompare : Server.KeepsCompare axisSpanServer := fun _ _ s =>
  leaves_sessionRequest fun _ _ _ => leaves_bind fun n _ => leaves_bind fun _ _ => leaves_bind fun _ _ =>
    leaves_ok (s.setAxis_offer_keepsCompare n _ _ _)

theorem axisPresetServer_keepsCompare : Server.KeepsCompare axisPresetServer := fun _ _ s =>
  leaves_sessionRequest fun _ _ _ => leaves_bind fun n _ => leaves_bind fun _ _ => leaves_bind fun _ _ =>
    leaves_bind fun _ _ => leaves_ok (s.setAxis_offer_keepsCompare n _ _ _)

theorem axisClearFaultServer_keepsCompare : Server.KeepsCompare axisClearFaultServer := fun _ _ s =>
  leaves_sessionRequest fun _ _ _ => leaves_bind fun n _ => leaves_bind fun _ _ => leaves_bind fun _ _ =>
    leaves_bind fun _ _ => leaves_ok (s.setAxis_offer_keepsCompare n _ _ _)

theorem closeServer_keepsCompare : Server.KeepsCompare closeServer := fun p _ s =>
  leaves_sessionRequest fun _ _ _ => leaves_ok (s.closeSession_keepsCompare p)

theorem deviceResetServer_keepsCompare : Server.KeepsCompare deviceResetServer := fun _ _ s =>
  leaves_sessionRequest fun _ _ _ => leaves_bind fun _ _ =>
    leaves_ok (KeepsCompare.trans _ _ _ s.closeAll_keepsCompare (State.resetBlocks_keepsCompare _))

theorem releaseServer_keepsCompare : Server.KeepsCompare releaseServer := fun _ _ s =>
  leaves_sessionRequest fun _ _ _ => leaves_bind fun r _ => leaves_bind fun _ _ => leaves_ok (s.giveUp_keepsCompare r)

/-! ### The requests of the other units -/

theorem openServer_keepsCompare : Server.KeepsCompare openServer := fun p _ s =>
  leaves_bind fun _ _ => leaves_bind fun _ _ => leaves_bind fun _ _ => leaves_bind fun _ _ =>
    leaves_ok (s.setSession_keepsCompare p _)

theorem pingServer_keepsCompare : Server.KeepsCompare pingServer := fun _ _ _ =>
  leaves_sessionRequest fun _ _ _ => leaves_report_keepsCompare _

theorem deviceInfoServer_keepsCompare : Server.KeepsCompare deviceInfoServer := fun _ _ _ =>
  leaves_sessionRequest fun _ _ _ => leaves_report_keepsCompare _

theorem claimServer_keepsCompare : Server.KeepsCompare claimServer := fun p _ s =>
  leaves_sessionRequest fun _ _ _ => leaves_bind fun r _ => leaves_bind fun _ _ => by
    have claimed := s.setOwner_keepsCompare r (some p)
    split
    · exact leaves_ok claimed
    · split
      · exact leaves_report_keepsCompare _
      · split
        · exact leaves_error _
        · split
          · exact leaves_ok (KeepsCompare.trans _ _ _ claimed (State.raiseTo_only _ _ _).keepsCompare)
          · exact leaves_error _

theorem whoOwnsServer_keepsCompare : Server.KeepsCompare whoOwnsServer := fun _ _ _ =>
  leaves_sessionRequest fun _ _ _ => by
    unfold whoOwnsBody
    split
    · exact leaves_report_keepsCompare _
    · exact leaves_bind fun _ _ => leaves_report_keepsCompare _

theorem axisReadServer_keepsCompare : Server.KeepsCompare axisReadServer := fun _ _ _ =>
  leaves_sessionRequest fun _ _ _ => leaves_bind fun _ _ => leaves_bind fun _ _ => leaves_report_keepsCompare _

theorem snapServer_keepsCompare : Server.KeepsCompare snapServer := fun _ _ s =>
  leaves_sessionRequest fun _ _ _ => leaves_bind fun _ _ => leaves_bind fun _ _ => leaves_bind fun _ _ => by
    dsimp only
    split
    · exact leaves_ok (s.capture_only _).keepsCompare
    · exact leaves_report_keepsCompare _

theorem timeReadServer_keepsCompare : Server.KeepsCompare timeReadServer := fun _ _ _ =>
  leaves_sessionRequest fun _ _ _ => leaves_report_keepsCompare _

theorem alignArmServer_keepsCompare : Server.KeepsCompare alignArmServer := fun _ _ s =>
  leaves_sessionRequest fun _ _ _ => leaves_bind fun _ _ => leaves_bind fun _ _ => leaves_ok (s.setTime_only _).keepsCompare

theorem alignCancelServer_keepsCompare : Server.KeepsCompare alignCancelServer := fun _ _ s =>
  leaves_sessionRequest fun _ _ _ => leaves_bind fun _ _ => leaves_ok (s.setTime_only _).keepsCompare

theorem State.setMark_keepsCompare (s : State) (m : MarkUnit) : KeepsCompare s (s.setMark m) := .of_others rfl

theorem markSetupServer_keepsCompare : Server.KeepsCompare markSetupServer := fun _ _ s =>
  leaves_sessionRequest fun _ _ _ => leaves_bind fun _ _ => leaves_bind fun _ _ => leaves_bind fun _ _ =>
    leaves_ok (s.setMark_keepsCompare _)

theorem markPulseServer_keepsCompare : Server.KeepsCompare markPulseServer := fun _ _ s =>
  leaves_sessionRequest fun _ _ _ => leaves_bind fun _ _ => leaves_ok (s.setMark_keepsCompare _)

theorem trigSetupServer_keepsCompare : Server.KeepsCompare trigSetupServer := fun _ _ s =>
  leaves_sessionRequest fun _ _ _ => leaves_bind fun c _ => leaves_bind fun _ _ => leaves_bind fun _ _ =>
    leaves_bind fun _ _ =>
      leaves_ok (KeepsCompare.trans _ _ _ (s.arrive_only _ _).keepsCompare (State.setChannel_only _ c _).keepsCompare)

theorem trigLineFilterServer_keepsCompare : Server.KeepsCompare trigLineFilterServer := fun _ _ s =>
  leaves_sessionRequest fun _ _ _ => leaves_bind fun l _ => leaves_bind fun _ _ => leaves_ok (s.setLine_only l _).keepsCompare

theorem trigArmServer_keepsCompare : Server.KeepsCompare trigArmServer := fun _ _ s =>
  leaves_sessionRequest fun _ _ _ => leaves_bind fun c _ => leaves_bind fun _ _ => leaves_bind fun _ _ =>
    leaves_ok (s.setChannel_only c _).keepsCompare

theorem trigDisarmServer_keepsCompare : Server.KeepsCompare trigDisarmServer := fun _ _ s =>
  leaves_sessionRequest fun _ _ _ => leaves_bind fun c _ => leaves_bind fun _ _ =>
    leaves_ok (KeepsCompare.trans _ _ _ (s.setChannel_only c _).keepsCompare
      (State.raiseToOwner_if_only _ _ _ _).keepsCompare)

theorem trigFireServer_keepsCompare : Server.KeepsCompare trigFireServer := fun _ _ s =>
  leaves_sessionRequest fun _ _ _ => leaves_bind fun c _ => leaves_bind fun _ _ => leaves_bind fun _ _ =>
    leaves_ok (KeepsCompare.trans _ _ _ (s.fire_only c).keepsCompare (State.handOver_only _ _).keepsCompare)

theorem trigStatusServer_keepsCompare : Server.KeepsCompare trigStatusServer := fun _ _ _ =>
  leaves_sessionRequest fun _ _ _ => leaves_bind fun _ _ => leaves_report_keepsCompare _

theorem logSubscribeServer_keepsCompare : Server.KeepsCompare logSubscribeServer := fun p _ s =>
  leaves_sessionRequest fun _ _ _ => leaves_bind fun _ _ => leaves_bind fun _ _ => leaves_bind fun _ _ =>
    leaves_ok (s.setReader_levelCheck_only p _).keepsCompare

theorem logUnsubscribeServer_keepsCompare : Server.KeepsCompare logUnsubscribeServer := fun p _ s =>
  leaves_sessionRequest fun _ _ _ => leaves_bind fun _ _ => leaves_ok (s.setReader_only p none).keepsCompare

theorem logFetchServer_keepsCompare : Server.KeepsCompare logFetchServer := fun _ _ _ =>
  leaves_sessionRequest fun _ _ _ => leaves_bind fun _ _ => leaves_bind fun _ _ => leaves_report_keepsCompare _

theorem logReleaseServer_keepsCompare : Server.KeepsCompare logReleaseServer := fun p _ s =>
  leaves_sessionRequest fun _ _ _ => leaves_bind fun _ _ => by
    dsimp only
    split
    · exact leaves_error _
    · exact leaves_report_keepsCompare _
    · exact leaves_ok (s.setReader_levelCheck_only p _).keepsCompare

theorem logStatusServer_keepsCompare : Server.KeepsCompare logStatusServer := fun _ _ _ =>
  leaves_sessionRequest fun _ _ _ => by
    unfold logStatusBody
    dsimp only
    split <;> exact leaves_report_keepsCompare _

theorem cmpStatusServer_keepsCompare : Server.KeepsCompare cmpStatusServer := fun _ _ _ =>
  leaves_sessionRequest fun _ _ _ => leaves_bind fun _ _ => leaves_report_keepsCompare _

theorem gateStatusServer_keepsCompare : Server.KeepsCompare gateStatusServer := fun _ _ _ =>
  leaves_sessionRequest fun _ _ _ => leaves_bind fun _ _ => leaves_report_keepsCompare _

theorem eventMaskServer_keepsCompare : Server.KeepsCompare eventMaskServer := fun p _ s =>
  leaves_sessionRequest fun _ _ _ => leaves_bind fun _ _ => leaves_ok (s.setSession_keepsCompare p _)

theorem eventReadServer_keepsCompare : Server.KeepsCompare eventReadServer := fun _ _ _ =>
  leaves_sessionRequest fun _ _ _ => leaves_report_keepsCompare _

theorem eventAckServer_keepsCompare : Server.KeepsCompare eventAckServer := fun p _ s =>
  leaves_sessionRequest fun _ _ _ => leaves_bind fun _ _ => leaves_ok (s.setSession_keepsCompare p _)

/-- Every request of the table keeps entries and gates. -/
theorem requestTable_keepsCompare : ∀ e ∈ requestTable, Server.KeepsCompare e.2 := by
  simp only [requestTable, List.forall_mem_cons]
  exact ⟨openServer_keepsCompare, closeServer_keepsCompare, pingServer_keepsCompare, deviceInfoServer_keepsCompare,
    deviceResetServer_keepsCompare, claimServer_keepsCompare, releaseServer_keepsCompare, whoOwnsServer_keepsCompare,
    axisSetupServer_keepsCompare, axisSpanServer_keepsCompare, axisPresetServer_keepsCompare,
    axisClearFaultServer_keepsCompare, axisReadServer_keepsCompare, snapServer_keepsCompare, timeReadServer_keepsCompare,
    alignArmServer_keepsCompare, alignCancelServer_keepsCompare, markSetupServer_keepsCompare,
    markPulseServer_keepsCompare, trigSetupServer_keepsCompare, trigLineFilterServer_keepsCompare,
    trigArmServer_keepsCompare, trigDisarmServer_keepsCompare, trigFireServer_keepsCompare, trigStatusServer_keepsCompare,
    logSubscribeServer_keepsCompare, logUnsubscribeServer_keepsCompare, logFetchServer_keepsCompare,
    logReleaseServer_keepsCompare, logStatusServer_keepsCompare, cmpSetupServer_keepsCompare,
    cmpEnableServer_keepsCompare, cmpDisableServer_keepsCompare, cmpStatusServer_keepsCompare,
    gateSetupServer_keepsCompare, gateSetServer_keepsCompare, gateStatusServer_keepsCompare,
    eventMaskServer_keepsCompare, eventReadServer_keepsCompare, eventAckServer_keepsCompare, List.forall_mem_nil _⟩

theorem State.taken_keepsCompare (s : State) (p : PortId) : KeepsCompare s (s.taken p) := .of_others rfl

theorem State.discardAll_keepsCompare (s : State) (p : PortId) : KeepsCompare s (s.discardAll p) :=
  KeepsCompare.foldl _ (fun t q => t.discardQueues_keepsCompare q _) allPorts s

theorem State.takeNextRequest_keepsCompare (s : State) : KeepsCompare s s.takeNextRequest :=
  State.takeNextRequest_preserves (P := KeepsCompare s)
    (fun t p h => KeepsCompare.trans _ _ _ h (t.taken_keepsCompare p))
    (fun t p _ h => KeepsCompare.trans _ _ _ h (t.setPort_keepsCompare p _))
    (fun t h => KeepsCompare.trans _ _ _ h (t.arrive_only _ _).keepsCompare)
    (fun t p h => KeepsCompare.trans _ _ _ h (t.discardAll_keepsCompare p))
    (fun e he p payload t ht bytes u hu =>
      KeepsCompare.trans _ _ _ ht (requestTable_keepsCompare e he p payload t bytes u hu)) s (KeepsCompare.refl s)

/-! ### The tick (R99, R108, R112; log entry 2) -/

theorem State.sampleAxesLeft_keepsCompare (s : State) : KeepsCompare s s.sampleAxesLeft := by
  rw [s.sampleAxesLeft_eq]
  refine KeepsCompare.foldl _ (fun t n => ?_) allAxes s
  exact KeepsCompare.trans _ _ _ (KeepsCompare.ite (KeepsCompare.refl t) (t.sampleAB_keepsCompare n [] []))
    (KeepsCompare.ite (KeepsCompare.refl _) (State.sampleZ_keepsCompare _ n []))

theorem State.takeMarkPulseEnd_keepsCompare (s : State) : KeepsCompare s s.takeMarkPulseEnd :=
  KeepsCompare.ite (s.setMark_keepsCompare _) (KeepsCompare.refl s)

theorem State.endFieldSide_keepsCompare (s : State) : KeepsCompare s s.endFieldSide := by
  have axes := KeepsCompare.trans _ _ _ s.takeMarkPulseEnd_keepsCompare (State.sampleAxesLeft_keepsCompare _)
  have lines := KeepsCompare.trans _ _ _ axes (State.sampleLinesLeft_only _).keepsCompare
  have bursts := KeepsCompare.trans _ _ _ lines (State.burstStepsLeft_only _).keepsCompare
  have gates := KeepsCompare.trans _ _ _ bursts (KeepsCompare.foldl _ State.takeGatePulseEnd_keepsCompare allGates _)
  exact KeepsCompare.trans _ _ _ gates (State.arrive_only _ _ _).keepsCompare

theorem State.endPorts_keepsCompare (s : State) : KeepsCompare s s.endPorts := by
  have expired := KeepsCompare.foldl _ State.takeExpiry_keepsCompare allPorts s
  have taken := KeepsCompare.trans _ _ _ expired (State.takeNextRequest_keepsCompare _)
  have last := KeepsCompare.trans _ _ _ taken (KeepsCompare.foldl _ State.expireLast_keepsCompare allPorts _)
  exact KeepsCompare.trans _ _ _ last (State.takeNextRequest_keepsCompare _)

theorem State.finishTick_keepsCompare (s : State) : KeepsCompare s s.finishTick := by
  have ports := KeepsCompare.trans _ _ _ s.endFieldSide_keepsCompare (State.endPorts_keepsCompare _)
  have sampled := KeepsCompare.trans _ _ _ ports (State.sampleMarkLeft_only _).keepsCompare
  exact KeepsCompare.trans _ _ _ sampled (State.arrive_only _ _ _).keepsCompare

/-- A new tick counts the pulses of the gates, and leaves the entries and the counts of the axes (R112). -/
theorem State.beginTick_keepsCompare (s : State) : KeepsCompare s s.beginTick := by
  refine ⟨fun h e => ?_, State.gatesOk_of_moves (fun _ => rfl) fun g hg => ?_⟩
  · have count : ∀ n, (s.beginTick.axis n).count = (s.axis n).count := fun n => by rw [s.beginTick_axis]; rfl
    rw [Entry.ok_iff, count]
    exact Entry.ok_iff.mp (h e)
  · rw [s.beginTick_gate]
    exact hg.tick

/-! ### The step -/

/-- A happening that keeps entries and gates, and then brings captures to the log. -/
theorem KeepsCompare.reachLog {s t : State} (h : KeepsCompare s t) (order : LogOrder) : KeepsCompare s (t.reachLog order) :=
  trans _ _ _ h (t.reachLog_only order).keepsCompare

/-- A happening that is no request keeps entries and gates. -/
theorem exec_keepsCompare_of_happening {c : Instr} {s t : State} (hc : requestOf c = none) (ht : exec c s = .next t) :
    KeepsCompare s t := by
  cases c with
  | pinReset => cases ht; exact s.pinReset_keepsCompare
  | portUnblock p => cases ht; exact (s.unblock_only p).keepsCompare
  | transactionBegin p => cases ht; exact (s.beginTransaction_only p).keepsCompare
  | statusByteShifted p received => cases ht; exact (s.showStatus_only p received).keepsCompare
  | responseDelivered p received => cases ht; exact (s.deliverResponse_only p received).keepsCompare
  | transactionEnd p received => cases ht; exact s.endTransaction_keepsCompare p received
  | sessionExpiry p => cases ht; exact s.takeExpiry_keepsCompare p
  | axisLevelChange n input => cases ht; exact (s.showAxis_keepsCompare n input).reachLog _
  | gatePulseEnd g => cases ht; exact s.takeGatePulseEnd_keepsCompare g
  | trigLevelChange l raw channels => cases ht; exact (s.showTrigLine_only l raw _).keepsCompare.reachLog _
  | burstStep step => cases ht; exact (s.takeBurstStep_only step.channel).keepsCompare.reachLog _
  | markPulseEnd => cases ht; exact s.takeMarkPulseEnd_keepsCompare
  | recognisedEdge events log => cases ht; exact (s.takeRecognisedEdge_only events).keepsCompare.reachLog _
  | recognizerRearm => cases ht; exact KeepsCompare.ite (s.setMark_keepsCompare _) (KeepsCompare.refl s)
  | markLineChange outside => cases ht; exact s.setMark_keepsCompare _
  | tickCountAdvance =>
    have he : s.finishTick.beginTick = t := Host.Outcome.next.inj ht
    rw [← he]
    exact KeepsCompare.trans _ _ _ s.finishTick_keepsCompare (State.beginTick_keepsCompare _)
  | _ => cases hc

theorem exec_keepsCompare {c : Instr} {s t : State} (ht : exec c s = .next t) : KeepsCompare s t := by
  cases hc : requestOf c with
  | none => exact exec_keepsCompare_of_happening hc ht
  | some request =>
    rcases exec_request_cases hc s with he | he <;> rw [he] at ht <;> cases ht
    · exact KeepsCompare.refl s
    · exact s.takeNextRequest_keepsCompare

theorem step_keepsCompare {s t : State} (ht : step s = .next t) : KeepsCompare s t := by
  unfold step at ht
  split at ht
  · cases ht
    exact KeepsCompare.refl s
  · next c rest _ =>
    have front : KeepsCompare s { s with pending := rest } := .of_others rfl
    exact KeepsCompare.trans _ _ _ front (exec_keepsCompare ht)

/-- Settles O9: a count that changes is offered to every entry of its axis, and the CMP requests and the parks leave an entry as R92
and R93 state. -/
theorem stepKeepsMetEqualToTheCondition : Obligations.StepKeepsMetEqualToTheCondition :=
  fun _ _ h ht => (step_keepsCompare ht).entries h

/-- Settles O10: the gates follow every change of a met flag, and every other move of a gate leaves the output its mode gives. -/
theorem stepKeepsGateOutputsRight : Obligations.StepKeepsGateOutputsRight :=
  fun _ _ h ht => (step_keepsCompare ht).gates h

end Sys2Proof.Machine

/-! ## An offer, a hit, and what follows (O42) -/

namespace Sys2Proof.Machine

/-! ### The condition (R93) -/

theorem insideWindow_iff (a b v : Int) :
    insideWindow a b v = true ↔ (a ≤ b ∧ a ≤ v ∧ v ≤ b) ∨ (b < a ∧ (a ≤ v ∨ v ≤ b)) := by
  unfold insideWindow
  split <;> (rw [decide_eq_true_eq]; omega)

/-! ### Gates and pulses (R106 to R108, R122, R126) -/

theorem State.anyMet_iff (s : State) (sources : EntrySet) :
    s.anyMet sources = true ↔ ∃ k : EntryId, inSet sources k.val = true ∧ (s.entry k).met = true := by
  simp [State.anyMet]

/-- What a FOLLOW gate shows (R106). -/
theorem State.gateLevel_of_follow (s : State) {x : Gate} (h : x.mode = .follow) :
    s.gateLevel x =
      if ∃ k : EntryId, inSet x.sources k.val = true ∧ (s.entry k).met = true then .active else .inactive := by
  simp only [State.gateLevel, h, State.anyMet_iff]

/-- A change of a met flag reaches the FOLLOW gates that have its entry among their sources (R107). -/
theorem State.setMet_gate (s : State) (e : EntryId) (met : Bool) (g : GateId) :
    (s.setMet e met).gate g =
      if (s.gate g).mode = .follow ∧ inSet (s.gate g).sources e.val = true ∧ met ≠ (s.entry e).met then
        { s.gate g with
          output := if ∃ k : EntryId, inSet (s.gate g).sources k.val = true ∧ ((s.setMet e met).entry k).met = true then .active
            else .inactive }
      else s.gate g := by
  by_cases hm : (s.entry e).met = met
  · rw [if_neg fun ⟨_, _, changed⟩ => changed hm.symm, State.setMet, if_pos hm]
  · have changed : s.setMet e met = (s.setEntry e { s.entry e with met := met }).followGates e := if_neg hm
    by_cases hf : (s.gate g).mode = .follow ∧ inSet (s.gate g).sources e.val = true
    · obtain ⟨hmode, hsource⟩ := hf
      rw [if_pos ⟨hmode, hsource, Ne.symm hm⟩, changed, State.followGates_gate, State.setEntry_gate, State.followGate,
        if_pos ⟨hmode, hsource⟩, ← State.gateLevel_of_follow _ hmode]
      rfl
    · rw [if_neg fun ⟨mode, source, _⟩ => hf ⟨mode, source⟩, changed, State.followGates_gate, State.setEntry_gate, State.followGate, if_neg hf]

/-- A met flag that turns true drives the FOLLOW gates that have its entry among their sources (R107). -/
theorem State.setMet_true_gate {s : State} {e : EntryId} (h : (s.entry e).met = false) (g : GateId) :
    (s.setMet e true).gate g =
      if (s.gate g).mode = .follow ∧ inSet (s.gate g).sources e.val = true then { s.gate g with output := .active }
      else s.gate g := by
  have turns : true ≠ (s.entry e).met := by simp [h]
  rw [State.setMet_gate]
  by_cases hf : (s.gate g).mode = .follow ∧ inSet (s.gate g).sources e.val = true
  · obtain ⟨hmode, hsource⟩ := hf
    have met : ((s.setMet e true).entry e).met = true := by rw [State.setMet_entry, if_pos rfl]
    rw [if_pos ⟨hmode, hsource, turns⟩, if_pos ⟨e, hsource, met⟩, if_pos ⟨hmode, hsource⟩]
  · rw [if_neg fun ⟨mode, source, _⟩ => hf ⟨mode, source⟩, if_neg hf]

/-- A FOLLOW gate that drives its output takes no pulse from a hit (R107, R108). -/
theorem Gate.hit_of_followed (x : Gate) (e : EntryId) (followed : Activity) :
    let y := if x.mode = .follow ∧ inSet x.sources e.val = true then { x with output := followed } else x
    y.hit e =
      if x.mode = .pulse ∧ inSet x.sources e.val = true then { x with remaining := x.width, output := .active, endDue := false }
      else y := by
  intro y
  by_cases hf : x.mode = .follow ∧ inSet x.sources e.val = true
  · have follow : y = { x with output := followed } := if_pos hf
    obtain ⟨hmode, _⟩ := hf
    have noPulse : ¬(x.mode = .pulse ∧ inSet x.sources e.val = true) := fun ⟨pulse, _⟩ => nomatch hmode.symm.trans pulse
    rw [follow]
    exact (if_neg noPulse).trans (if_neg noPulse).symm
  · have same : y = x := if_neg hf
    rw [same]
    rfl

/-- A pulse that starts, and the re-arming sample of the tick that it undoes (R126, log entry 10). -/
theorem MarkUnit.startPulse_eq (m : MarkUnit) :
    m.startPulse =
      if m.sampled = .rearmed then
        { m with drive := .driving, remaining := 8, endDue := false, recognizer := .held, highRun := 3, lowRun := 0
                 sampled := .notYet }
      else { m with drive := .driving, remaining := 8, endDue := false } := by
  unfold MarkUnit.startPulse MarkUnit.sampleAgain
  split <;> rfl

/-! ### A hit (R100, R101) -/

/-- A pulse request changes the entries and the MARK unit alone (R101). -/
theorem State.requestMark_eq (s : State) (e : EntryId) :
    s.requestMark e = { s with entries := (s.requestMark e).entries, mark := (s.requestMark e).mark } := by
  unfold State.requestMark
  split <;> rfl

/-- Beside what it tells the owner, a hit changes the entries, the gates and the MARK unit alone (R100). -/
theorem State.hit_told (s : State) (e : EntryId) :
    let u := s.setEntry e ((s.entry e).recordHit s.stamp)
    let w := if (s.entry e).event then u.raiseToOwner (.entry e) (.cmpHit e) else u
    s.hit e = { w with entries := (s.hit e).entries, gates := (s.hit e).gates, mark := (s.hit e).mark } := by
  intro u w
  rw [State.hit_eq]
  split
  · rw [State.requestMark_eq]
    rfl
  · rfl

/-- Settles O42: an offer at a DISABLED entry, one that is no hit, and a hit. -/
theorem offerUpdatesMetAndHitsOnce : Obligations.OfferUpdatesMetAndHitsOnce := by
  refine ⟨fun x v => ?_, fun s e kind v => ?_⟩
  · obtain ⟨_, k, a, b, _, _, _, _, _, _, _⟩ := x
    cases k with
    | atPoint => exact decide_eq_true_iff
    | above => exact decide_eq_true_iff
    | below => exact decide_eq_true_iff
    | inside => exact insideWindow_iff a b v
    | outside => exact Bool.not_eq_eq_eq_not.trans (Bool.eq_false_iff.trans (not_congr (insideWindow_iff a b v)))
  · intro x t hit
    refine ⟨State.offerEntry_of_disabled, fun henabled hno => ?_, fun henabled ⟨hstep, hmet, hcond⟩ => ?_⟩
    · have offered : t = s.setMet e (x.condition v) := State.offerEntry_of_noHit henabled hno
      rw [offered]
      refine ⟨?_, fun k hk => ?_, s.setMet_gate e _, s.setMet_only e _⟩
      · rw [State.setMet_entry, if_pos rfl]
      · rw [State.setMet_entry, if_neg hk]
    · subst hstep
      have offered : t = (s.setMet e true).hit e := State.offerEntry_of_hit henabled hmet hcond
      have entry : (s.setMet e true).entry e = { x with met := true } := by rw [State.setMet_entry, if_pos rfl]
      have only := s.setMet_only e true
      have stamp : (s.setMet e true).stamp = s.stamp := by rw [only]; rfl
      have told := (s.setMet e true).hit_told e
      rw [← offered, entry, stamp] at told
      refine ⟨_, ?_, ?_, fun k hk => ?_, fun g => ?_, told, fun g => ?_, fun k hk => ?_, ?_, ?_⟩
      · rw [only]
        rfl
      · exact State.setEntry_entry_same _ e _
      · rw [State.setEntry_entry_ne _ _ _ hk, State.setMet_entry, if_neg hk]
      · exact State.setMet_true_gate hmet g
      · rw [State.setEntry_gate, offered, State.hit_gate, State.setMet_true_gate hmet g]
        exact Gate.hit_of_followed _ e _
      · rw [State.offerEntry_entry_ne _ _ _ hk]
      · rw [State.setEntry_entry_same, offered, State.hit_entry_same, entry, stamp, only.mark]
        unfold Entry.hitAt
        dsimp only
        split <;> rfl
      · rw [offered, State.hit_mark, entry, only.mark, MarkUnit.startPulse_eq]
        simp only [and_comm]

end Sys2Proof.Machine

/-! ## CMP_SETUP, CMP_ENABLE and CMP_DISABLE (O43, O44) -/

namespace Sys2Proof.Machine

/-! ### An entry replaced -/

/-- An accepted request that replaces an entry is answered, the FOLLOW gates follow, and nothing else changes. -/
theorem entryReplaced_of_ok {s : State} {p : PortId} {code tag : Byte} {payload bytes : List Byte} {serve : Server}
    {k : EntryId} {x : Entry} (hg : s.gatesOk)
    (h : s.nextRequest = some (p, { command := code, tag := tag, payload := payload })) (hc : code ≠ codeTimeRead)
    (he : serve p payload (s.taken p) = .ok (bytes, (s.taken p).replaceEntry k x)) :
    let t := executorTakes p { command := code, tag := tag, payload := payload } serve s
    s.answered p { command := code, tag := tag, result := .ok, payload := bytes } t ∧ t.entry k = x ∧
      (∀ m, m ≠ k → t.entry m = s.entry m) ∧ (∀ g, t.gate g = { s.gate g with output := t.gateLevel (s.gate g) }) ∧
      t = { s with entries := t.entries, gates := t.gates, ports := t.ports, executor := t.executor } := by
  have only := (s.taken p).replaceEntry_only k x
  have follow := (State.gatesFollow_self (s := s.taken p) hg).replaceEntry k x
  have entry := (s.taken p).replaceEntry_entry k (x := x)
  refine ⟨answered_of_ok h hc he (by rw [only]) (by rw [only]), ?_⟩
  rw [executorTakes_of_ok h he]
  refine ⟨(entry k).trans (if_pos rfl), fun m hm => (entry m).trans (if_neg hm), follow, ?_⟩
  rw [State.deposit_eq, only]
  rfl

/-! ### CMP_SETUP (R95, R96) -/

/-- A compare kind is a code from 0 to 4 (R178). -/
theorem compareKindField_eq (payload : List Byte) (off : Nat) :
    codeField compareKind? payload off =
      if 4 < (byteAt payload off).toNat then .error .badValue else .ok (kindOfByte (byteAt payload off)) := by
  unfold codeField compareKind? kindOfByte
  generalize byteAt payload off = b
  by_cases hb : 4 < b.toNat
  · have undefined : b ≠ 0 ∧ b ≠ 1 ∧ b ≠ 2 ∧ b ≠ 3 ∧ b ≠ 4 := by bv_omega
    simp only [undefined, hb, if_true, if_false]
  · have defined : b = 0 ∨ b = 1 ∨ b = 2 ∨ b = 3 ∨ b = 4 := by bv_omega
    rcases defined with rfl | rfl | rfl | rfl | rfl <;> rfl

/-- INSIDE and OUTSIDE, the kinds 3 and 4, use bound b (R92, R178). -/
theorem usesB_kindOfByte {b : Byte} (h : ¬4 < b.toNat) : (kindOfByte b).usesB = true ↔ b = 3 ∨ b = 4 := by
  have defined : b = 0 ∨ b = 1 ∨ b = 2 ∨ b = 3 ∨ b = 4 := by bv_omega
  rcases defined with rfl | rfl | rfl | rfl | rfl <;> decide

/-- The bounds are judged against the range of the axis, then against one another (R95). -/
theorem boundChecks_bind {α : Type} (x : Axis) (kind : CompareKind) (a b : Int) (k : Unit → Checked α) :
    (boundChecks x kind a b >>= k) =
      let inside := fun v : Int => if x.span = 0 then -549755813888 ≤ v ∧ v ≤ 549755813887 else 0 ≤ v ∧ v < x.span
      if ¬inside a ∨ (kind.usesB = true ∧ ¬inside b) then .error .outOfRange
      else if kind.usesB = true ∧ b < a ∧ x.span = 0 then .error .badValue
      else k () := by
  extract_lets inside
  have range : (x.inRange a && (!kind.usesB || x.inRange b)) =
      decide ¬(¬inside a ∨ (kind.usesB = true ∧ ¬inside b)) := by
    have ha : x.inRange a = decide (inside a) := x.inRange_eq a
    have hb : x.inRange b = decide (inside b) := x.inRange_eq b
    rw [ha, hb]
    cases kind.usesB <;> simp
  unfold boundChecks
  rw [range, bind_assoc, require_bind]
  simp only [require_not_bind, not_not, Bool.and_eq_true, decide_eq_true_eq, and_assoc]

/-- CMP_SETUP on a port with a session: its checks in the order of R95, then the entry replaced (R95, R96). -/
theorem cmpSetupServer_eq {s : State} {p : PortId} {ses : Session} (hs : s.session p = some ses) (e n kind event mark : Byte)
    {av bv : List Byte} (ha : av.length = 5) (hb : bv.length = 5) :
    cmpSetupServer p ([e, n, kind] ++ av ++ bv ++ [event, mark]) s =
      let k : EntryId := Fin.ofNat 24 e.toNat
      let x := s.axis (Fin.ofNat 6 n.toNat)
      let a := countOfBytes av
      let b := countOfBytes bv
      let inside := fun v : Int => if x.span = 0 then -549755813888 ≤ v ∧ v ≤ 549755813887 else 0 ≤ v ∧ v < x.span
      if 23 < e.toNat ∨ 5 < n.toNat then .error .outOfRange
      else if 4 < kind.toNat ∨ 1 < event.toNat ∨ 1 < mark.toNat then .error .badValue
      else if ¬inside a ∨ ((kindOfByte kind).usesB = true ∧ ¬inside b) then .error .outOfRange
      else if (kindOfByte kind).usesB = true ∧ b < a ∧ x.span = 0 then .error .badValue
      else if s.owner (.entry k) ≠ some p then .error .notOwner
      else .ok ([], s.replaceEntry k
        { axis := Fin.ofNat 6 n.toNat, kind := kindOfByte kind, a := a, b := if (kindOfByte kind).usesB = true then b else 0
          event := decide (event = 1), markFlag := decide (mark = 1), enabled := false, met := false, hits := 0
          lastHit := none, suppressed := 0 }) := by
  obtain ⟨a4, a3, a2, a1, a0, rfl⟩ : ∃ a4 a3 a2 a1 a0, av = [a4, a3, a2, a1, a0] := by
    match av, ha with
    | [a4, a3, a2, a1, a0], _ => exact ⟨a4, a3, a2, a1, a0, rfl⟩
  obtain ⟨b4, b3, b2, b1, b0, rfl⟩ : ∃ b4 b3 b2 b1 b0, bv = [b4, b3, b2, b1, b0] := by
    match bv, hb with
    | [b4, b3, b2, b1, b0], _ => exact ⟨b4, b3, b2, b1, b0, rfl⟩
  rw [cmpSetupServer, sessionRequest_of_some (len := 15) hs rfl, cmpSetupBody]
  simp only [idField_eq, ite_error_bind, ok_bind, compareKindField_eq, flagField_eq, boundChecks_bind, requireOwner_bind, ite_or]
  rfl

/-- Settles O43: the checks one by one, then the entry replaced by a DISABLED one. -/
theorem cmpSetupChecksBoundsAndDisables : Obligations.CmpSetupChecksBoundsAndDisables := by
  intro s p tag e n kind event mark av bv ses hg ha hb hn hs
  refine ⟨_, rfl, ?_⟩
  refine refused_ite hn (cmpSetupServer_eq (s := s.taken p) hs e n kind event mark ha hb) fun _ server => ?_
  refine refused_ite hn server fun hfields server => ?_
  simp only [usesB_kindOfByte fun h => hfields (.inl h)] at server
  refine refused_ite hn server fun _ server => refused_ite hn server fun _ server => refused_ite hn server fun _ server => ?_
  exact entryReplaced_of_ok hg hn (by decide) server

/-! ### CMP_ENABLE and CMP_DISABLE (R97, R98) -/

section
variable {s : State} {p : PortId} {ses : Session} (hs : s.session p = some ses) (e : Byte)
include hs

/-- CMP_ENABLE on a port with a session: its checks in order, then the entry enabled and evaluated (R97). -/
theorem cmpEnableServer_eq :
    cmpEnableServer p [e] s =
      let k : EntryId := Fin.ofNat 24 e.toNat
      let x := s.entry k
      let m := x.condition (s.axis x.axis).count
      if 23 < e.toNat then .error .outOfRange
      else if s.owner (.entry k) ≠ some p then .error .notOwner
      else .ok ([if m then 1 else 0], s.replaceEntry k { x with enabled := true, met := m }) := by
  rw [cmpEnableServer, sessionRequest_of_some (len := 1) (payload := [e]) hs rfl, cmpEnableBody, idField_eq, ite_error_bind,
    ok_bind, requireOwner_bind]
  rfl

/-- CMP_DISABLE on a port with a session: its checks in order, then the entry disabled (R98). -/
theorem cmpDisableServer_eq :
    cmpDisableServer p [e] s =
      let k : EntryId := Fin.ofNat 24 e.toNat
      if 23 < e.toNat then .error .outOfRange
      else if s.owner (.entry k) ≠ some p then .error .notOwner
      else .ok ([], s.replaceEntry k { s.entry k with enabled := false, met := false }) := by
  rw [cmpDisableServer, sessionRequest_of_some (len := 1) (payload := [e]) hs rfl, cmpDisableBody, idField_eq, ite_error_bind,
    ok_bind, requireOwner_bind]
  rfl

end

/-- Settles O44: the checks one by one, then the entry replaced, quietly. -/
theorem cmpEnableAndDisableMoveMetQuietly : Obligations.CmpEnableAndDisableMoveMetQuietly := by
  intro s p tag e ses hg hs
  refine ⟨fun hn => ⟨_, rfl, ?_⟩, fun hn => ⟨_, rfl, ?_⟩⟩
  · refine refused_ite hn (cmpEnableServer_eq (s := s.taken p) hs e) fun _ server => refused_ite hn server fun _ server => ?_
    exact entryReplaced_of_ok hg hn (by decide) server
  · refine refused_ite hn (cmpDisableServer_eq (s := s.taken p) hs e) fun _ server => refused_ite hn server fun _ server => ?_
    exact entryReplaced_of_ok hg hn (by decide) server

end Sys2Proof.Machine

/-! ## GATE_SETUP and GATE_SET (O45) -/

namespace Sys2Proof.Machine

/-! ### The fields (R109, R110, R177, R178) -/

/-- A field with the codes 0 and 1 alone (R178). -/
theorem codeField_of_two {α : Type} (zero one : α) {f : Byte → Option α}
    (hf : ∀ b, f b = if b = 0 then some zero else if b = 1 then some one else none) (payload : List Byte) (off : Nat) :
    codeField f payload off =
      if 1 < (byteAt payload off).toNat then .error .badValue else .ok (if byteAt payload off = 0 then zero else one) := by
  unfold codeField
  generalize byteAt payload off = b
  rw [hf]
  by_cases h0 : b = 0
  · subst h0; rfl
  · by_cases h1 : b = 1
    · subst h1; rfl
    · have hb : 1 < b.toNat := by bv_omega
      rw [if_neg h0, if_neg h1, if_pos hb]

/-- A gate mode is a code from 0 to 2 (R178). -/
theorem gateModeField_eq (payload : List Byte) (off : Nat) :
    codeField gateMode? payload off =
      if 2 < (byteAt payload off).toNat then .error .badValue
      else .ok (if byteAt payload off = 0 then .manual else if byteAt payload off = 1 then .follow else .pulse) := by
  unfold codeField gateMode?
  generalize byteAt payload off = b
  by_cases hb : 2 < b.toNat
  · have undefined : b ≠ 0 ∧ b ≠ 1 ∧ b ≠ 2 := by bv_omega
    simp only [undefined, hb, if_true, if_false]
  · have defined : b = 0 ∨ b = 1 ∨ b = 2 := by bv_omega
    rcases defined with rfl | rfl | rfl <;> rfl

theorem polarityField_eq (payload : List Byte) (off : Nat) :
    codeField polarity? payload off =
      if 1 < (byteAt payload off).toNat then .error .badValue
      else .ok (if byteAt payload off = 0 then .normal else .inverted) := codeField_of_two _ _ (fun _ => rfl) payload off

theorem activityField_eq (payload : List Byte) (off : Nat) :
    codeField activity? payload off =
      if 1 < (byteAt payload off).toNat then .error .badValue
      else .ok (if byteAt payload off = 0 then .inactive else .active) := codeField_of_two _ _ (fun _ => rfl) payload off

/-! ### GATE_SETUP (R106, R109) -/

/-- The gate that GATE_SETUP configures, but for its output (R109). -/
def Gate.configured (x : Gate) (mode polarity : Byte) (sources : EntrySet) (width : Nat) : Gate :=
  { x with mode := if mode = 0 then .manual else if mode = 1 then .follow else .pulse
           polarity := if polarity = 0 then .normal else .inverted, sources := sources, width := width, remaining := 0
           endDue := false }

/-- GATE_SETUP on a port with a session: its checks in order, then the gate replaced (R109). -/
theorem gateSetupServer_eq {s : State} {p : PortId} {ses : Session} (hs : s.session p = some ses)
    (g mode polarity s3 s2 s1 s0 w1 w0 : Byte) :
    gateSetupServer p [g, mode, polarity, s3, s2, s1, s0, w1, w0] s =
      let k : GateId := Fin.ofNat 8 g.toNat
      let y := (s.gate k).configured mode polarity (BitVec.ofNat 24 (natOfBytes [s3, s2, s1, s0])) (w1.toNat * 256 + w0.toNat)
      if 7 < g.toNat then .error .outOfRange
      else if 2 < mode.toNat ∨ 1 < polarity.toNat ∨ s3 ≠ 0 then .error .badValue
      else if w1 = 0 ∧ w0 = 0 then .error .outOfRange
      else if s.owner (.gate k) ≠ some p then .error .notOwner
      else .ok ([(s.gateLevel y).code], s.setGate k { y with output := s.gateLevel y }) := by
  have beyond : 2 ^ 24 ≤ natOfBytes [s3, s2, s1, s0] ↔ s3 ≠ 0 := by
    simp only [natOfBytes, List.foldl_cons, List.foldl_nil]
    bv_omega
  have hwidth : natAt [g, mode, polarity, s3, s2, s1, s0, w1, w0] 7 2 = w1.toNat * 256 + w0.toNat := by simp [natAt, natOfBytes]
  have hsources : natAt [g, mode, polarity, s3, s2, s1, s0, w1, w0] 3 4 = natOfBytes [s3, s2, s1, s0] := rfl
  have empty : ¬1 ≤ w1.toNat * 256 + w0.toNat ↔ w1 = 0 ∧ w0 = 0 := by bv_omega
  rw [gateSetupServer, sessionRequest_of_some (len := 9) hs rfl, gateSetupBody]
  simp only [idField_eq, ite_error_bind, ok_bind, gateModeField_eq, polarityField_eq, setField_eq, hsources, beyond, hwidth,
    require_bind, empty, requireOwner_bind, ite_or]
  rfl

/-- The output of a gate configured anew: its manual level, its sources' met flags, or INACTIVE without a pulse (R106, R109). -/
theorem State.gateLevel_configured (s : State) (x : Gate) (mode polarity : Byte) (sources : EntrySet) (width : Nat) :
    s.gateLevel (x.configured mode polarity sources width) =
      if mode = 0 then x.manual
      else if mode = 1 ∧ ∃ e : EntryId, inSet sources e.val = true ∧ (s.entry e).met = true then .active
      else .inactive := by
  by_cases hmanual : mode = 0
  · subst hmanual; rfl
  · by_cases hfollow : mode = 1
    · subst hfollow
      rw [State.gateLevel_of_follow _ rfl]
      simp [Gate.configured]
    · have pulse : (x.configured mode polarity sources width).mode = .pulse := (if_neg hmanual).trans (if_neg hfollow)
      rw [if_neg hmanual, if_neg fun ⟨h, _⟩ => hfollow h]
      simp only [State.gateLevel, pulse]
      exact if_neg (lt_irrefl 0)

/-- The pin of a gate is high exactly when NORMAL and ACTIVE go together (R106). -/
theorem Gate.pin_eq_high_iff (x : Gate) : x.pin = .high ↔ (x.polarity = .normal ↔ x.output = .active) := by
  unfold Gate.pin
  cases x.polarity <;> cases x.output <;> decide

theorem Gate.configured_polarity_iff (x : Gate) (mode polarity : Byte) (sources : EntrySet) (width : Nat) :
    (x.configured mode polarity sources width).polarity = .normal ↔ polarity = 0 := by
  unfold Gate.configured
  dsimp only
  split
  · next h => exact iff_of_true rfl h
  · next h => exact iff_of_false nofun h

/-! ### GATE_SET (R110) -/

/-- GATE_SET on a port with a session: its checks in order, then the level stored (R110). -/
theorem gateSetServer_eq {s : State} {p : PortId} {ses : Session} (hs : s.session p = some ses) (g level : Byte) :
    gateSetServer p [g, level] s =
      let k : GateId := Fin.ofNat 8 g.toNat
      let x := s.gate k
      let stored : Activity := if level = 0 then .inactive else .active
      let output := if x.mode = .manual then stored else x.output
      if 7 < g.toNat then .error .outOfRange
      else if 1 < level.toNat then .error .badValue
      else if s.owner (.gate k) ≠ some p then .error .notOwner
      else .ok ([output.code], s.setGate k { x with manual := stored, output := output }) := by
  rw [gateSetServer, sessionRequest_of_some (len := 2) (payload := [g, level]) hs rfl, gateSetBody, idField_eq, ite_error_bind,
    ok_bind, activityField_eq, ite_error_bind, ok_bind, requireOwner_bind]
  rfl

/-- An accepted request that replaces a gate is answered, and nothing else changes. -/
theorem gateReplaced_of_ok {s : State} {p : PortId} {code tag : Byte} {payload bytes : List Byte} {serve : Server}
    {k : GateId} {x : Gate} (h : s.nextRequest = some (p, { command := code, tag := tag, payload := payload }))
    (hc : code ≠ codeTimeRead) (he : serve p payload (s.taken p) = .ok (bytes, (s.taken p).setGate k x)) :
    let t := executorTakes p { command := code, tag := tag, payload := payload } serve s
    s.answered p { command := code, tag := tag, result := .ok, payload := bytes } t ∧ t.gate k = x ∧
      (∀ j, j ≠ k → t.gate j = s.gate j) ∧ t = { s with gates := t.gates, ports := t.ports, executor := t.executor } := by
  refine ⟨answered_of_ok h hc he rfl rfl, ?_⟩
  rw [executorTakes_of_ok h he]
  exact ⟨State.setGate_gate_same _ k x, fun j hj => State.setGate_gate_ne _ k x hj, rfl⟩

/-- Settles O45: the checks one by one, then the gate replaced, with the output its mode gives. -/
theorem gateSetupAndGateSetDriveTheOutput : Obligations.GateSetupAndGateSetDriveTheOutput := by
  intro s p tag g ses hs
  refine ⟨fun mode polarity s3 s2 s1 s0 w1 w0 hn => ⟨_, rfl, ?_⟩, fun level hn => ⟨_, rfl, ?_⟩⟩
  · refine refused_ite hn (gateSetupServer_eq (s := s.taken p) hs g mode polarity s3 s2 s1 s0 w1 w0) fun _ server => ?_
    refine refused_ite hn server fun _ server => refused_ite hn server fun _ server => refused_ite hn server fun _ server => ?_
    simp only [State.gateLevel_configured] at server
    obtain ⟨answered, gate, others, frame⟩ := gateReplaced_of_ok hn (by decide) server
    refine ⟨answered, gate, ?_, others, frame⟩
    rw [gate, Gate.pin_eq_high_iff]
    have normal := Gate.configured_polarity_iff (s.gate (Fin.ofNat 8 g.toNat)) mode polarity
      (BitVec.ofNat 24 (natOfBytes [s3, s2, s1, s0])) (w1.toNat * 256 + w0.toNat)
    exact iff_congr normal Iff.rfl
  · refine refused_ite hn (gateSetServer_eq (s := s.taken p) hs g level) fun _ server => ?_
    refine refused_ite hn server fun _ server => refused_ite hn server fun _ server => ?_
    exact gateReplaced_of_ok hn (by decide) server

end Sys2Proof.Machine

/-! ## MARK_SETUP, MARK_PULSE and the ends of pulses (O56) -/

namespace Sys2Proof.Machine

/-! ### The MARK requests (R125, R126) -/

section
variable {s : State} {p : PortId} {ses : Session} (hs : s.session p = some ses)
include hs

/-- MARK_SETUP on a port with a session: its checks in order, then both fields replaced (R125). -/
theorem markSetupServer_eq (set notify : Byte) :
    markSetupServer p [set, notify] s =
      if 63 < set.toNat ∨ 1 < notify.toNat then .error .badValue
      else if s.owner .mark ≠ some p then .error .notOwner
      else .ok ([], s.setMark
        { s.mark with captureSet := BitVec.ofNat 6 set.toNat, notify := decide (notify = 1) }) := by
  have hset : natAt [set, notify] 0 1 = set.toNat := natAt_one _ _ _ rfl
  rw [markSetupServer, sessionRequest_of_some (len := 2) (payload := [set, notify]) hs rfl, markSetupBody, setField_eq, hset,
    ite_error_bind, ok_bind, flagField_eq, ite_error_bind, ok_bind, requireOwner_bind, ite_or]
  rfl

/-- MARK_PULSE on a port with a session: refused while a pulse is driven, otherwise the pulse starts (R126). -/
theorem markPulseServer_eq :
    markPulseServer p [] s =
      if s.mark.drive = .driving then .error .markBusy else .ok (s.stamp.bytes, s.setMark s.mark.startPulse) := by
  rw [markPulseServer, sessionRequest_of_some (len := 0) (payload := []) hs rfl, markPulseBody, require_bind]
  cases s.mark.drive <;> rfl

end

/-- An accepted request that replaces the MARK unit is answered, and nothing else changes. -/
theorem markReplaced_of_ok {s : State} {p : PortId} {code tag : Byte} {payload bytes : List Byte} {serve : Server}
    {m : MarkUnit} (h : s.nextRequest = some (p, { command := code, tag := tag, payload := payload }))
    (hc : code ≠ codeTimeRead) (he : serve p payload (s.taken p) = .ok (bytes, (s.taken p).setMark m)) :
    let t := executorTakes p { command := code, tag := tag, payload := payload } serve s
    s.answered p { command := code, tag := tag, result := .ok, payload := bytes } t ∧ t.mark = m ∧
      t = { s with mark := t.mark, ports := t.ports, executor := t.executor } := by
  refine ⟨answered_of_ok h hc he rfl rfl, ?_⟩
  rw [executorTakes_of_ok h he]
  exact ⟨rfl, rfl⟩

/-- Settles O56: the checks one by one, then the MARK unit replaced; and the pulse ends as they are owed. -/
theorem markRequestsAndPulseEnds : Obligations.MarkRequestsAndPulseEnds := by
  refine ⟨fun s p tag ses hs => ⟨fun set notify hn => ⟨_, rfl, ?_⟩, fun hn => ⟨_, rfl, ?_⟩⟩, fun s => ⟨_, rfl, rfl⟩,
    fun s g => ⟨_, rfl, rfl⟩⟩
  · refine refused_ite hn (markSetupServer_eq (s := s.taken p) hs set notify) fun _ server => ?_
    refine refused_ite hn server fun _ server => ?_
    exact markReplaced_of_ok hn (by decide) server
  · refine refused_ite hn (markPulseServer_eq (s := s.taken p) hs) fun _ server => ?_
    rw [MarkUnit.startPulse_eq] at server
    exact markReplaced_of_ok hn (by decide) server

end Sys2Proof.Machine

/-! ## The moves of the MARK unit (R122, R123, R126, R131) -/

namespace Sys2Proof.Machine

namespace MarkUnit.ok

variable {m : MarkUnit}

/-- A pulse that starts drives for 8 ticks, and leaves no re-arm of its tick (R122, R126). -/
theorem startPulse (h : m.ok) : m.startPulse.ok := by
  obtain ⟨-, -, hready, hheld, -⟩ := h
  have eight : 1 ≤ 8 ∧ 8 ≤ Config.markPulseTicks := by decide
  rw [MarkUnit.startPulse_eq]
  split
  · exact ⟨nofun, fun _ => eight, nofun, fun _ => le_rfl, nofun⟩
  · next hs => exact ⟨nofun, fun _ => eight, hready, hheld, fun hr => absurd hr hs⟩

/-- The pulse released leaves the drive IDLE and the recognizer with its run (R126, R131). -/
theorem released (h : m.ok) : m.released.ok := by
  obtain ⟨-, -, hready, hheld, hrearmed⟩ := h
  refine ⟨fun _ => ⟨rfl, rfl⟩, nofun, hready, hheld, fun hs => ?_⟩
  obtain ⟨hr, hrun, -⟩ := hrearmed hs
  exact ⟨hr, hrun, rfl⟩

/-- A READY recognizer with a low run up to 3, in a tick without a re-arm (R123). -/
theorem of_ready (hidle : m.drive = .idle → m.remaining = 0 ∧ m.endDue = false)
    (hdriving : m.drive = .driving → 1 ≤ m.remaining ∧ m.remaining ≤ Config.markPulseTicks) (hr : m.recognizer = .ready)
    (hrun : m.lowRun ≤ 3) (hs : m.sampled ≠ .rearmed) : m.ok :=
  ⟨hidle, hdriving, fun _ => hrun, fun hh => by simp [hr] at hh, fun h => absurd h hs⟩

/-- A HELD recognizer with a high run up to 3, in a tick without a re-arm (R123). -/
theorem of_held (hidle : m.drive = .idle → m.remaining = 0 ∧ m.endDue = false)
    (hdriving : m.drive = .driving → 1 ≤ m.remaining ∧ m.remaining ≤ Config.markPulseTicks) (hr : m.recognizer = .held)
    (hrun : m.highRun ≤ 3) (hs : m.sampled ≠ .rearmed) : m.ok :=
  ⟨hidle, hdriving, fun hh => by simp [hr] at hh, fun _ => hrun, fun h => absurd h hs⟩

/-- A sample counts the run of the recognizer up to 3, and starts a new run at the fourth (R123). -/
theorem sample (h : m.ok) : m.sample.1.ok := by
  obtain ⟨hidle, hdriving, -, -, -⟩ := h
  have three := Nat.zero_le 3
  cases hr : m.recognizer <;> cases hl : m.line
  case ready.low =>
    rw [MarkUnit.sample_of_ready_low hr hl]
    split
    · next hrun => exact of_ready hidle hdriving hr hrun nofun
    · refine of_held hidle hdriving rfl three ?_
      dsimp only
      split <;> nofun
  case ready.high =>
    rw [MarkUnit.sample_of_ready_high hr hl]
    exact of_ready hidle hdriving hr three nofun
  case held.low =>
    rw [MarkUnit.sample_of_held_low hr hl]
    exact of_held hidle hdriving hr three nofun
  case held.high =>
    rw [MarkUnit.sample_of_held_high hr hl]
    split
    · next hrun => exact of_held hidle hdriving hr hrun nofun
    · exact of_ready hidle hdriving rfl three nofun

/-- A sample that re-arms is taken on a high line, on which this part drives nothing (R122, R123). -/
theorem rearmed (h : m.ok) (hl : m.line = .high) :
    MarkUnit.ok { m with recognizer := .ready, lowRun := 0, highRun := 0, sampled := .rearmed } := by
  obtain ⟨hidle, hdriving, -, -, -⟩ := h
  obtain ⟨drive, -⟩ := m.released_iff.mp (m.line_eq_high_iff.mp hl)
  exact ⟨hidle, hdriving, fun _ => Nat.zero_le 3, nofun, fun _ => ⟨rfl, rfl, drive⟩⟩

/-- The drive counts down to 1 and no further: the last count is owed as the end of the pulse (R126). -/
theorem tick (h : m.ok) : m.tick.ok := by
  obtain ⟨hidle, hdriving, hready, hheld, -⟩ := h
  rw [MarkUnit.tick_eq]
  split
  · next hd =>
    have notIdle : m.drive ≠ .idle := by simp [hd]
    obtain ⟨-, hmost⟩ := hdriving hd
    split
    · next hmore =>
      exact ⟨fun hi => absurd hi notIdle, fun _ => ⟨Nat.le_sub_one_of_lt hmore, (Nat.sub_le _ 1).trans hmost⟩, hready,
        hheld, nofun⟩
    · exact ⟨fun hi => absurd hi notIdle, hdriving, hready, hheld, nofun⟩
  · exact ⟨hidle, hdriving, hready, hheld, nofun⟩

end MarkUnit.ok

end Sys2Proof.Machine

/-! ## What a happening may do to the MARK unit and the timebase (O11) -/

namespace Sys2Proof.Machine

/-- From `s` to `t` the MARK unit has not come out of what R123 and R126 state, nor the timebase out of what R119 and R120 state. -/
structure KeepsMark (s t : State) : Prop where
  mark : s.mark.ok → t.mark.ok
  time : s.time.ok → t.time.ok

namespace KeepsMark

@[refl] theorem refl (s : State) : KeepsMark s s := ⟨id, id⟩

theorem trans (s t u : State) (h : KeepsMark s t) (k : KeepsMark t u) : KeepsMark s u :=
  ⟨k.mark ∘ h.mark, k.time ∘ h.time⟩

/-- A fold of operations that keep MARK unit and timebase keeps them. -/
theorem foldl {α : Type} (f : State → α → State) (h : ∀ t x, KeepsMark t (f t x)) (l : List α) (s : State) :
    KeepsMark s (l.foldl f s) := foldl_reaches KeepsMark refl trans f h l s

/-- A choice between operations that keep MARK unit and timebase keeps them. -/
theorem ite {b : Prop} [Decidable b] {s t u : State} (h : b → KeepsMark s t) (k : KeepsMark s u) :
    KeepsMark s (if b then t else u) := by
  split
  · next hb => exact h hb
  · exact k

/-- A change of other units alone. -/
theorem of_others {s t : State} (hm : t.mark = s.mark) (ht : t.time = s.time) : KeepsMark s t :=
  ⟨fun h => hm ▸ h, fun h => ht ▸ h⟩

end KeepsMark

theorem OnlySessions.keepsMark {s t : State} (h : OnlySessions s t) : KeepsMark s t := by
  rw [h]; exact .of_others rfl rfl
theorem OnlyLog.keepsMark {s t : State} (h : OnlyLog s t) : KeepsMark s t := by
  rw [h]; exact .of_others rfl rfl
theorem OnlyGates.keepsMark {s t : State} (h : OnlyGates s t) : KeepsMark s t := by
  rw [h]; exact .of_others rfl rfl
theorem OnlyMet.keepsMark {s t : State} (h : OnlyMet s t) : KeepsMark s t := by
  rw [h]; exact .of_others rfl rfl
theorem OnlyEvents.keepsMark {s t : State} (h : OnlyEvents s t) : KeepsMark s t := by
  rw [h]; exact .of_others rfl rfl
theorem OnlyFiring.keepsMark {s t : State} (h : OnlyFiring s t) : KeepsMark s t := by
  rw [h]; exact .of_others rfl rfl
theorem OnlyLines.keepsMark {s t : State} (h : OnlyLines s t) : KeepsMark s t := by
  rw [h]; exact .of_others rfl rfl
theorem OnlyPorts.keepsMark {s t : State} (h : OnlyPorts s t) : KeepsMark s t := by
  rw [h]; exact .of_others rfl rfl

/-- What an offer changes leaves the timebase, and keeps the MARK unit when its pulse does. -/
theorem OnlyOffer.keepsMark {s t : State} (h : OnlyOffer s t) (hm : s.mark.ok → t.mark.ok) : KeepsMark s t :=
  ⟨hm, fun ht => by rwa [h]⟩

theorem State.setMark_keepsMark {s : State} {m : MarkUnit} (h : s.mark.ok → m.ok) : KeepsMark s (s.setMark m) :=
  (s.setMark_only m).keepsMark h

theorem State.setTime_keepsMark {s : State} {t : Timebase} (h : s.time.ok → t.ok) : KeepsMark s (s.setTime t) := ⟨id, h⟩

theorem State.setSession_keepsMark (s : State) (p : PortId) (x : Option Session) : KeepsMark s (s.setSession p x) :=
  .of_others rfl rfl
theorem State.setOwner_keepsMark (s : State) (r : Resource) (o : Option PortId) : KeepsMark s (s.setOwner r o) :=
  .of_others rfl rfl
theorem State.setAxis_keepsMark (s : State) (n : AxisId) (x : Axis) : KeepsMark s (s.setAxis n x) := .of_others rfl rfl
theorem State.setGate_keepsMark (s : State) (g : GateId) (x : Gate) : KeepsMark s (s.setGate g x) := .of_others rfl rfl
theorem State.setPort_keepsMark (s : State) (p : PortId) (q : Port) : KeepsMark s (s.setPort p q) := .of_others rfl rfl

theorem State.discardQueues_keepsMark (s : State) (p : PortId) (kept : Nat) : KeepsMark s (s.discardQueues p kept) :=
  .of_others rfl rfl

/-! ### Hits and samples of the axes (R72, R100, R101) -/

/-- A hit starts a pulse of the MARK unit, or leaves it as it is (R101). -/
theorem State.hit_keepsMark (s : State) (e : EntryId) : KeepsMark s (s.hit e) := by
  refine (s.hit_only e).keepsMark fun h => ?_
  rw [State.hit_mark]
  split
  · exact h.startPulse
  · exact h

theorem State.offerEntry_keepsMark (kind : OfferKind) (v : Int) (s : State) (e : EntryId) :
    KeepsMark s (State.offerEntry kind v s e) := by
  have met := (s.setMet_only e ((s.entry e).condition v)).keepsMark
  exact KeepsMark.ite (fun _ => KeepsMark.refl s)
    (KeepsMark.ite (fun _ => KeepsMark.trans _ _ _ met (State.hit_keepsMark _ e)) met)

/-- An axis set anew, which then offers its count. -/
theorem State.setAxis_offer_keepsMark (s : State) (n : AxisId) (x : Axis) (kind : OfferKind) (entries : List EntryId) :
    KeepsMark s ((s.setAxis n x).offer n kind entries) :=
  KeepsMark.trans _ _ _ (s.setAxis_keepsMark n x) (KeepsMark.foldl _ (State.offerEntry_keepsMark kind _) _ _)

/-- A sample of A and B leaves the timebase, and starts a pulse at most (R101). -/
theorem State.sampleAB_keepsMark (s : State) (n : AxisId) (entries : List EntryId) (channels : List ChannelId) :
    KeepsMark s (s.sampleAB n entries channels) := by
  refine ⟨fun h => ?_, fun h => by rwa [s.sampleAB_only n entries channels]⟩
  unfold State.sampleAB
  dsimp only
  rcases State.applyDecoded_mark _ n _ entries channels with same | ⟨-, started⟩
  · rw [same]
    exact h
  · rw [started]
    exact MarkUnit.ok.startPulse h

theorem State.sampleZ_keepsMark (s : State) (n : AxisId) (channels : List ChannelId) : KeepsMark s (s.sampleZ n channels) := by
  have sampled := s.setAxis_keepsMark n
  exact KeepsMark.ite (fun _ => KeepsMark.trans _ _ _ (sampled _) (State.triggerEvents_only _ _).keepsMark) (sampled _)

theorem State.showAxis_keepsMark (s : State) (n : AxisId) (input : AxisInput) : KeepsMark s (s.showAxis n input) := by
  have shown := fun (t : State) (x : Axis) => t.setAxis_keepsMark n x
  cases input with
  | ab a b entries channels =>
    have sampled := s.sampleAB_keepsMark n entries channels.events
    exact KeepsMark.ite (fun _ => shown s _) (KeepsMark.ite (fun _ => KeepsMark.trans _ _ _ sampled (shown _ _))
      (KeepsMark.trans _ _ _ (shown s _) (State.sampleAB_keepsMark _ n _ _)))
  | z z channels =>
    exact KeepsMark.ite (fun _ => shown s _) (KeepsMark.trans _ _ _ (shown s _) (State.sampleZ_keepsMark _ n _))

/-! ### The MARK line (R120, R123, R124, R126) -/

theorem State.takeMarkPulseEnd_keepsMark (s : State) : KeepsMark s s.takeMarkPulseEnd :=
  KeepsMark.ite (fun _ => State.setMark_keepsMark MarkUnit.ok.released) (KeepsMark.refl s)

theorem State.takeRearm_keepsMark (s : State) : KeepsMark s s.takeRearm :=
  KeepsMark.ite (fun ⟨_, _, hl, _⟩ => State.setMark_keepsMark fun h => h.rearmed hl) (KeepsMark.refl s)

/-- An alignment clears the preload that it loads (R120). -/
theorem State.alignAtEdge_keepsMark (s : State) : KeepsMark s s.alignAtEdge := by
  have aligned : KeepsMark s (s.setTime s.time.aligned) := State.setTime_keepsMark fun _ _ => rfl
  exact KeepsMark.ite (fun _ => KeepsMark.trans _ _ _ aligned (State.raiseToAll_only _ _).keepsMark) (KeepsMark.refl s)

theorem State.recogniseEdge_keepsMark (s : State) (order : List ChannelId) : KeepsMark s (s.recogniseEdge order) := by
  have captured := KeepsMark.trans _ _ _ s.alignAtEdge_keepsMark (State.markCapture_only _).keepsMark
  have triggered := KeepsMark.trans _ _ _ captured
    (State.triggerEvents_only _ (s.alignAtEdge.markCapture.sourceChannels .mark order)).keepsMark
  exact KeepsMark.trans _ _ _ triggered (State.markNotify_only _).keepsMark

theorem State.sampleMark_keepsMark (s : State) (order : List ChannelId) : KeepsMark s (s.sampleMark order) := by
  have sampled : KeepsMark s (s.setMark s.mark.sample.1) := State.setMark_keepsMark MarkUnit.ok.sample
  exact KeepsMark.ite (fun _ => KeepsMark.trans _ _ _ sampled (State.recogniseEdge_keepsMark _ order)) sampled

theorem State.takeRecognisedEdge_keepsMark (s : State) (order : List ChannelId) : KeepsMark s (s.takeRecognisedEdge order) :=
  KeepsMark.ite (fun _ => s.sampleMark_keepsMark order) (KeepsMark.refl s)

/-! ### Parks, closes and resets (R130, R131, R138, R142) -/

/-- The park of MARK returns the alignment to IDLE and clears the preload (R130). -/
theorem State.park_keepsMark (s : State) (r : Resource) : KeepsMark s (s.park r) := by
  cases r with
  | axis _ => exact KeepsMark.refl s
  | channel c => exact (s.setChannel_only c _).keepsMark
  | entry e => exact (s.replaceEntry_only e _).keepsMark
  | gate g => exact s.setGate_keepsMark g _
  | mark => exact State.setTime_keepsMark fun _ _ => rfl

theorem State.giveUp_keepsMark (s : State) (r : Resource) : KeepsMark s (s.giveUp r) :=
  KeepsMark.trans _ _ _ (s.setOwner_keepsMark r none) (State.park_keepsMark _ r)

theorem State.closeSession_keepsMark (s : State) (p : PortId) : KeepsMark s (s.closeSession p) := by
  have given : KeepsMark s (allResources.foldl (State.giveUpOwned p) s) :=
    KeepsMark.foldl _ (fun t r => KeepsMark.ite (fun _ => t.giveUp_keepsMark r) (KeepsMark.refl t)) allResources s
  rw [s.closeSession_eq]
  exact KeepsMark.trans _ _ _ given (State.setSession_keepsMark _ p none)

theorem State.closeAll_keepsMark (s : State) : KeepsMark s s.closeAll :=
  KeepsMark.foldl _ (fun t p => KeepsMark.ite (fun _ => t.closeSession_keepsMark p) (KeepsMark.refl t)) allPorts s

theorem State.expire_keepsMark (s : State) (p : PortId) : KeepsMark s (s.expire p) :=
  KeepsMark.trans _ _ _ (KeepsMark.trans _ _ _ (s.closeSession_keepsMark p)
    (State.discardQueues_keepsMark _ p 0)) (State.setPort_keepsMark _ p _)

theorem State.takeExpiry_keepsMark (s : State) (p : PortId) : KeepsMark s (s.takeExpiry p) :=
  KeepsMark.ite (fun _ => s.expire_keepsMark p) (KeepsMark.refl s)

theorem State.expireLast_keepsMark (s : State) (p : PortId) : KeepsMark s (s.expireLast p) :=
  KeepsMark.ite (fun _ => s.expire_keepsMark p) (KeepsMark.refl s)

/-- DEVICE_RESET releases the pulse, returns the alignment to IDLE, and keeps the recognizer (R131). -/
theorem State.resetBlocks_keepsMark (s : State) : KeepsMark s s.resetBlocks := ⟨MarkUnit.ok.released, fun _ _ => rfl⟩

theorem State.pinReset_keepsMark (s : State) : KeepsMark s s.pinReset := ⟨fun _ => MarkUnit.reset_ok, fun _ _ => rfl⟩

/-! ### Host ports (R134, R162 to R168) -/

theorem State.endTransaction_keepsMark (s : State) (p : PortId) (received : List Byte) :
    KeepsMark s (s.endTransaction p received) := by
  have before : KeepsMark s (s.beforeFrame p) := KeepsMark.ite (fun _ => s.expire_keepsMark p) (KeepsMark.refl s)
  unfold State.endTransaction
  dsimp only
  split
  · exact KeepsMark.refl s
  · exact KeepsMark.refl s
  · split
    · exact s.setPort_keepsMark p _
    · exact s.setPort_keepsMark p _
    · exact KeepsMark.trans _ _ _ (KeepsMark.trans _ _ _ before (State.setPort_keepsMark _ p _))
        (State.reloadTimer_only _ p).keepsMark

end Sys2Proof.Machine

/-! ## Every step keeps the MARK unit and the timebase (O11) -/

namespace Sys2Proof.Machine

/-! ### The requests of the timebase and the MARK unit (R119, R125, R126) -/

/-- A request that keeps MARK unit and timebase. -/
def Server.KeepsMark (serve : Server) : Prop := ∀ p payload s, Leaves (Machine.KeepsMark s) (serve p payload s)

/-- A request that only reports keeps MARK unit and timebase. -/
theorem leaves_report_keepsMark {s : State} (payload : List Byte) : Leaves (KeepsMark s) (.ok (payload, s)) :=
  leaves_ok (KeepsMark.refl s)

theorem timeReadServer_keepsMark : Server.KeepsMark timeReadServer := fun _ _ _ =>
  leaves_sessionRequest fun _ _ _ => leaves_report_keepsMark _

theorem alignArmServer_keepsMark : Server.KeepsMark alignArmServer := fun _ _ _ =>
  leaves_sessionRequest fun _ _ _ => leaves_bind fun _ _ => leaves_bind fun _ _ =>
    leaves_ok (State.setTime_keepsMark fun _ => nofun)

theorem alignCancelServer_keepsMark : Server.KeepsMark alignCancelServer := fun _ _ _ =>
  leaves_sessionRequest fun _ _ _ => leaves_bind fun _ _ => leaves_ok (State.setTime_keepsMark fun _ _ => rfl)

theorem markSetupServer_keepsMark : Server.KeepsMark markSetupServer := fun _ _ _ =>
  leaves_sessionRequest fun _ _ _ => leaves_bind fun _ _ => leaves_bind fun _ _ => leaves_bind fun _ _ =>
    leaves_ok (State.setMark_keepsMark id)

theorem markPulseServer_keepsMark : Server.KeepsMark markPulseServer := fun _ _ _ =>
  leaves_sessionRequest fun _ _ _ => leaves_bind fun _ _ => leaves_ok (State.setMark_keepsMark MarkUnit.ok.startPulse)

/-! ### The requests that park, reset or offer (R79 to R82, R137, R142, R147) -/

theorem closeServer_keepsMark : Server.KeepsMark closeServer := fun p _ s =>
  leaves_sessionRequest fun _ _ _ => leaves_ok (s.closeSession_keepsMark p)

theorem deviceResetServer_keepsMark : Server.KeepsMark deviceResetServer := fun _ _ s =>
  leaves_sessionRequest fun _ _ _ => leaves_bind fun _ _ =>
    leaves_ok (KeepsMark.trans _ _ _ s.closeAll_keepsMark (State.resetBlocks_keepsMark _))

theorem releaseServer_keepsMark : Server.KeepsMark releaseServer := fun _ _ s =>
  leaves_sessionRequest fun _ _ _ => leaves_bind fun r _ => leaves_bind fun _ _ => leaves_ok (s.giveUp_keepsMark r)

theorem axisSpanServer_keepsMark : Server.KeepsMark axisSpanServer := fun _ _ s =>
  leaves_sessionRequest fun _ _ _ => leaves_bind fun n _ => leaves_bind fun _ _ => leaves_bind fun _ _ =>
    leaves_ok (s.setAxis_offer_keepsMark n _ _ _)

theorem axisPresetServer_keepsMark : Server.KeepsMark axisPresetServer := fun _ _ s =>
  leaves_sessionRequest fun _ _ _ => leaves_bind fun n _ => leaves_bind fun _ _ => leaves_bind fun _ _ =>
    leaves_bind fun _ _ => leaves_ok (s.setAxis_offer_keepsMark n _ _ _)

theorem axisClearFaultServer_keepsMark : Server.KeepsMark axisClearFaultServer := fun _ _ s =>
  leaves_sessionRequest fun _ _ _ => leaves_bind fun n _ => leaves_bind fun _ _ => leaves_bind fun _ _ =>
    leaves_bind fun _ _ => leaves_ok (s.setAxis_offer_keepsMark n _ _ _)

/-! ### The requests of the other units (R172) -/

theorem openServer_keepsMark : Server.KeepsMark openServer := fun p _ s =>
  leaves_bind fun _ _ => leaves_bind fun _ _ => leaves_bind fun _ _ => leaves_bind fun _ _ =>
    leaves_ok (s.setSession_keepsMark p _)

theorem pingServer_keepsMark : Server.KeepsMark pingServer := fun _ _ _ =>
  leaves_sessionRequest fun _ _ _ => leaves_report_keepsMark _

theorem deviceInfoServer_keepsMark : Server.KeepsMark deviceInfoServer := fun _ _ _ =>
  leaves_sessionRequest fun _ _ _ => leaves_report_keepsMark _

theorem claimServer_keepsMark : Server.KeepsMark claimServer := fun p _ s =>
  leaves_sessionRequest fun _ _ _ => leaves_bind fun r _ => leaves_bind fun _ _ => by
    have claimed := s.setOwner_keepsMark r (some p)
    split
    · exact leaves_ok claimed
    · split
      · exact leaves_report_keepsMark _
      · split
        · exact leaves_error _
        · split
          · exact leaves_ok (KeepsMark.trans _ _ _ claimed (State.raiseTo_only _ _ _).keepsMark)
          · exact leaves_error _

theorem whoOwnsServer_keepsMark : Server.KeepsMark whoOwnsServer := fun _ _ _ =>
  leaves_sessionRequest fun _ _ _ => by
    unfold whoOwnsBody
    split
    · exact leaves_report_keepsMark _
    · exact leaves_bind fun _ _ => leaves_report_keepsMark _

theorem axisSetupServer_keepsMark : Server.KeepsMark axisSetupServer := fun _ _ s =>
  leaves_sessionRequest fun _ _ _ => leaves_bind fun n _ => leaves_bind fun _ _ => leaves_bind fun _ _ =>
    leaves_bind fun _ _ => leaves_bind fun _ _ => leaves_ok (s.setAxis_keepsMark n _)

theorem axisReadServer_keepsMark : Server.KeepsMark axisReadServer := fun _ _ _ =>
  leaves_sessionRequest fun _ _ _ => leaves_bind fun _ _ => leaves_bind fun _ _ => leaves_report_keepsMark _

theorem snapServer_keepsMark : Server.KeepsMark snapServer := fun _ _ s =>
  leaves_sessionRequest fun _ _ _ => leaves_bind fun _ _ => leaves_bind fun _ _ => leaves_bind fun _ _ => by
    dsimp only
    split
    · exact leaves_ok (s.capture_only _).keepsMark
    · exact leaves_report_keepsMark _

theorem trigSetupServer_keepsMark : Server.KeepsMark trigSetupServer := fun _ _ s =>
  leaves_sessionRequest fun _ _ _ => leaves_bind fun c _ => leaves_bind fun _ _ => leaves_bind fun _ _ =>
    leaves_bind fun _ _ =>
      leaves_ok (KeepsMark.trans _ _ _ (s.arrive_only _ _).keepsMark (State.setChannel_only _ c _).keepsMark)

theorem trigLineFilterServer_keepsMark : Server.KeepsMark trigLineFilterServer := fun _ _ s =>
  leaves_sessionRequest fun _ _ _ => leaves_bind fun l _ => leaves_bind fun _ _ => leaves_ok (s.setLine_only l _).keepsMark

theorem trigArmServer_keepsMark : Server.KeepsMark trigArmServer := fun _ _ s =>
  leaves_sessionRequest fun _ _ _ => leaves_bind fun c _ => leaves_bind fun _ _ => leaves_bind fun _ _ =>
    leaves_ok (s.setChannel_only c _).keepsMark

theorem trigDisarmServer_keepsMark : Server.KeepsMark trigDisarmServer := fun _ _ s =>
  leaves_sessionRequest fun _ _ _ => leaves_bind fun c _ => leaves_bind fun _ _ =>
    leaves_ok (KeepsMark.trans _ _ _ (s.setChannel_only c _).keepsMark (State.raiseToOwner_if_only _ _ _ _).keepsMark)

theorem trigFireServer_keepsMark : Server.KeepsMark trigFireServer := fun _ _ s =>
  leaves_sessionRequest fun _ _ _ => leaves_bind fun c _ => leaves_bind fun _ _ => leaves_bind fun _ _ =>
    leaves_ok (KeepsMark.trans _ _ _ (s.fire_only c).keepsMark (State.handOver_only _ _).keepsMark)

theorem trigStatusServer_keepsMark : Server.KeepsMark trigStatusServer := fun _ _ _ =>
  leaves_sessionRequest fun _ _ _ => leaves_bind fun _ _ => leaves_report_keepsMark _

theorem logSubscribeServer_keepsMark : Server.KeepsMark logSubscribeServer := fun p _ s =>
  leaves_sessionRequest fun _ _ _ => leaves_bind fun _ _ => leaves_bind fun _ _ => leaves_bind fun _ _ =>
    leaves_ok (s.setReader_levelCheck_only p _).keepsMark

theorem logUnsubscribeServer_keepsMark : Server.KeepsMark logUnsubscribeServer := fun p _ s =>
  leaves_sessionRequest fun _ _ _ => leaves_bind fun _ _ => leaves_ok (s.setReader_only p none).keepsMark

theorem logFetchServer_keepsMark : Server.KeepsMark logFetchServer := fun _ _ _ =>
  leaves_sessionRequest fun _ _ _ => leaves_bind fun _ _ => leaves_bind fun _ _ => leaves_report_keepsMark _

theorem logReleaseServer_keepsMark : Server.KeepsMark logReleaseServer := fun p _ s =>
  leaves_sessionRequest fun _ _ _ => leaves_bind fun _ _ => by
    dsimp only
    split
    · exact leaves_error _
    · exact leaves_report_keepsMark _
    · exact leaves_ok (s.setReader_levelCheck_only p _).keepsMark

theorem logStatusServer_keepsMark : Server.KeepsMark logStatusServer := fun _ _ _ =>
  leaves_sessionRequest fun _ _ _ => by
    unfold logStatusBody
    dsimp only
    split <;> exact leaves_report_keepsMark _

theorem cmpSetupServer_keepsMark : Server.KeepsMark cmpSetupServer := fun _ _ s =>
  leaves_sessionRequest fun _ _ _ => leaves_bind fun e _ => leaves_bind fun _ _ => leaves_bind fun _ _ =>
    leaves_bind fun _ _ => leaves_bind fun _ _ => leaves_bind fun _ _ => leaves_bind fun _ _ =>
      leaves_ok (s.replaceEntry_only e _).keepsMark

theorem cmpEnableServer_keepsMark : Server.KeepsMark cmpEnableServer := fun _ _ s =>
  leaves_sessionRequest fun _ _ _ => leaves_bind fun e _ => leaves_bind fun _ _ => leaves_ok (s.replaceEntry_only e _).keepsMark

theorem cmpDisableServer_keepsMark : Server.KeepsMark cmpDisableServer := fun _ _ s =>
  leaves_sessionRequest fun _ _ _ => leaves_bind fun e _ => leaves_bind fun _ _ => leaves_ok (s.replaceEntry_only e _).keepsMark

theorem cmpStatusServer_keepsMark : Server.KeepsMark cmpStatusServer := fun _ _ _ =>
  leaves_sessionRequest fun _ _ _ => leaves_bind fun _ _ => leaves_report_keepsMark _

theorem gateSetupServer_keepsMark : Server.KeepsMark gateSetupServer := fun _ _ s =>
  leaves_sessionRequest fun _ _ _ => leaves_bind fun g _ => leaves_bind fun _ _ => leaves_bind fun _ _ =>
    leaves_bind fun _ _ => leaves_bind fun _ _ => leaves_bind fun _ _ => leaves_ok (s.setGate_keepsMark g _)

theorem gateSetServer_keepsMark : Server.KeepsMark gateSetServer := fun _ _ s =>
  leaves_sessionRequest fun _ _ _ => leaves_bind fun g _ => leaves_bind fun _ _ => leaves_bind fun _ _ =>
    leaves_ok (s.setGate_keepsMark g _)

theorem gateStatusServer_keepsMark : Server.KeepsMark gateStatusServer := fun _ _ _ =>
  leaves_sessionRequest fun _ _ _ => leaves_bind fun _ _ => leaves_report_keepsMark _

theorem eventMaskServer_keepsMark : Server.KeepsMark eventMaskServer := fun p _ s =>
  leaves_sessionRequest fun _ _ _ => leaves_bind fun _ _ => leaves_ok (s.setSession_keepsMark p _)

theorem eventReadServer_keepsMark : Server.KeepsMark eventReadServer := fun _ _ _ =>
  leaves_sessionRequest fun _ _ _ => leaves_report_keepsMark _

theorem eventAckServer_keepsMark : Server.KeepsMark eventAckServer := fun p _ s =>
  leaves_sessionRequest fun _ _ _ => leaves_bind fun _ _ => leaves_ok (s.setSession_keepsMark p _)

/-- Every request of the table keeps MARK unit and timebase. -/
theorem requestTable_keepsMark : ∀ e ∈ requestTable, Server.KeepsMark e.2 := by
  simp only [requestTable, List.forall_mem_cons]
  exact ⟨openServer_keepsMark, closeServer_keepsMark, pingServer_keepsMark, deviceInfoServer_keepsMark,
    deviceResetServer_keepsMark, claimServer_keepsMark, releaseServer_keepsMark, whoOwnsServer_keepsMark,
    axisSetupServer_keepsMark, axisSpanServer_keepsMark, axisPresetServer_keepsMark, axisClearFaultServer_keepsMark,
    axisReadServer_keepsMark, snapServer_keepsMark, timeReadServer_keepsMark, alignArmServer_keepsMark,
    alignCancelServer_keepsMark, markSetupServer_keepsMark, markPulseServer_keepsMark, trigSetupServer_keepsMark,
    trigLineFilterServer_keepsMark, trigArmServer_keepsMark, trigDisarmServer_keepsMark, trigFireServer_keepsMark,
    trigStatusServer_keepsMark, logSubscribeServer_keepsMark, logUnsubscribeServer_keepsMark, logFetchServer_keepsMark,
    logReleaseServer_keepsMark, logStatusServer_keepsMark, cmpSetupServer_keepsMark, cmpEnableServer_keepsMark,
    cmpDisableServer_keepsMark, cmpStatusServer_keepsMark, gateSetupServer_keepsMark, gateSetServer_keepsMark,
    gateStatusServer_keepsMark, eventMaskServer_keepsMark, eventReadServer_keepsMark, eventAckServer_keepsMark,
    List.forall_mem_nil _⟩

theorem State.taken_keepsMark (s : State) (p : PortId) : KeepsMark s (s.taken p) := .of_others rfl rfl

theorem State.discardAll_keepsMark (s : State) (p : PortId) : KeepsMark s (s.discardAll p) :=
  KeepsMark.foldl _ (fun t q => t.discardQueues_keepsMark q _) allPorts s

theorem State.takeNextRequest_keepsMark (s : State) : KeepsMark s s.takeNextRequest :=
  State.takeNextRequest_preserves (P := KeepsMark s)
    (fun t p h => KeepsMark.trans _ _ _ h (t.taken_keepsMark p))
    (fun t p _ h => KeepsMark.trans _ _ _ h (t.setPort_keepsMark p _))
    (fun t h => KeepsMark.trans _ _ _ h (t.arrive_only _ _).keepsMark)
    (fun t p h => KeepsMark.trans _ _ _ h (t.discardAll_keepsMark p))
    (fun e he p payload t ht bytes u hu => KeepsMark.trans _ _ _ ht (requestTable_keepsMark e he p payload t bytes u hu)) s
    (KeepsMark.refl s)

/-! ### The tick (R116, R122, R126; log entry 2) -/

theorem State.sampleAxesLeft_keepsMark (s : State) : KeepsMark s s.sampleAxesLeft := by
  rw [s.sampleAxesLeft_eq]
  refine KeepsMark.foldl _ (fun t n => ?_) allAxes s
  exact KeepsMark.trans _ _ _ (KeepsMark.ite (fun _ => KeepsMark.refl t) (t.sampleAB_keepsMark n [] []))
    (KeepsMark.ite (fun _ => KeepsMark.refl _) (State.sampleZ_keepsMark _ n []))

/-- On the field side the pulse may end, and the samples of the axes may start one. -/
theorem State.endFieldSide_keepsMark (s : State) : KeepsMark s s.endFieldSide := by
  have axes := KeepsMark.trans _ _ _ s.takeMarkPulseEnd_keepsMark (State.sampleAxesLeft_keepsMark _)
  have lines := KeepsMark.trans _ _ _ axes (State.sampleLinesLeft_only _).keepsMark
  have bursts := KeepsMark.trans _ _ _ lines (State.burstStepsLeft_only _).keepsMark
  have gates := KeepsMark.trans _ _ _ bursts (State.gatePulseEndsLeft_only _).keepsMark
  exact KeepsMark.trans _ _ _ gates (State.arrive_only _ _ _).keepsMark

theorem State.endPorts_keepsMark (s : State) : KeepsMark s s.endPorts := by
  have expired := KeepsMark.foldl _ State.takeExpiry_keepsMark allPorts s
  have taken := KeepsMark.trans _ _ _ expired (State.takeNextRequest_keepsMark _)
  have last := KeepsMark.trans _ _ _ taken (KeepsMark.foldl _ State.expireLast_keepsMark allPorts _)
  exact KeepsMark.trans _ _ _ last (State.takeNextRequest_keepsMark _)

theorem State.sampleMarkLeft_keepsMark (s : State) : KeepsMark s s.sampleMarkLeft :=
  KeepsMark.ite (fun _ => s.sampleMark_keepsMark []) (KeepsMark.refl s)

theorem State.finishTick_keepsMark (s : State) : KeepsMark s s.finishTick := by
  have ports := KeepsMark.trans _ _ _ s.endFieldSide_keepsMark (State.endPorts_keepsMark _)
  have sampled := KeepsMark.trans _ _ _ ports (State.sampleMarkLeft_keepsMark _)
  exact KeepsMark.trans _ _ _ sampled (State.arrive_only _ _ _).keepsMark

/-- A new tick counts the drive and the tick count, and leaves alignment and preload (R116, R126). -/
theorem State.beginTick_keepsMark (s : State) : KeepsMark s s.beginTick := ⟨MarkUnit.ok.tick, id⟩

/-! ### The step -/

/-- A happening that keeps MARK unit and timebase, and then brings captures to the log. -/
theorem KeepsMark.reachLog {s t : State} (h : KeepsMark s t) (order : LogOrder) : KeepsMark s (t.reachLog order) :=
  trans _ _ _ h (t.reachLog_only order).keepsMark

/-- A happening that is no request keeps MARK unit and timebase. -/
theorem exec_keepsMark_of_happening {c : Instr} {s t : State} (hc : requestOf c = none) (ht : exec c s = .next t) :
    KeepsMark s t := by
  cases c with
  | pinReset => cases ht; exact s.pinReset_keepsMark
  | portUnblock p => cases ht; exact (s.unblock_only p).keepsMark
  | transactionBegin p => cases ht; exact (s.beginTransaction_only p).keepsMark
  | statusByteShifted p received => cases ht; exact (s.showStatus_only p received).keepsMark
  | responseDelivered p received => cases ht; exact (s.deliverResponse_only p received).keepsMark
  | transactionEnd p received => cases ht; exact s.endTransaction_keepsMark p received
  | sessionExpiry p => cases ht; exact s.takeExpiry_keepsMark p
  | axisLevelChange n input => cases ht; exact (s.showAxis_keepsMark n input).reachLog _
  | gatePulseEnd g => cases ht; exact (s.takeGatePulseEnd_only g).keepsMark
  | trigLevelChange l raw channels => cases ht; exact (s.showTrigLine_only l raw _).keepsMark.reachLog _
  | burstStep step => cases ht; exact (s.takeBurstStep_only step.channel).keepsMark.reachLog _
  | markPulseEnd => cases ht; exact s.takeMarkPulseEnd_keepsMark
  | recognisedEdge events log => cases ht; exact (s.takeRecognisedEdge_keepsMark events).reachLog _
  | recognizerRearm => cases ht; exact s.takeRearm_keepsMark
  | markLineChange outside => cases ht; exact State.setMark_keepsMark id
  | tickCountAdvance =>
    have he : s.finishTick.beginTick = t := Host.Outcome.next.inj ht
    rw [← he]
    exact KeepsMark.trans _ _ _ s.finishTick_keepsMark (State.beginTick_keepsMark _)
  | _ => cases hc

theorem exec_keepsMark {c : Instr} {s t : State} (ht : exec c s = .next t) : KeepsMark s t := by
  cases hc : requestOf c with
  | none => exact exec_keepsMark_of_happening hc ht
  | some request =>
    rcases exec_request_cases hc s with he | he <;> rw [he] at ht <;> cases ht
    · exact KeepsMark.refl s
    · exact s.takeNextRequest_keepsMark

theorem step_keepsMark {s t : State} (ht : step s = .next t) : KeepsMark s t := by
  unfold step at ht
  split at ht
  · cases ht
    exact KeepsMark.refl s
  · next c rest _ =>
    have front : KeepsMark s { s with pending := rest } := .of_others rfl rfl
    exact KeepsMark.trans _ _ _ front (exec_keepsMark ht)

/-- Settles O11: a pulse starts at 8 and counts to 1, a sample starts a new run at the fourth equal level, and whatever returns the
alignment to IDLE clears the preload. -/
theorem stepKeepsMarkUnitAndPreload : Obligations.StepKeepsMarkUnitAndPreload := by
  intro s t ⟨hmark, htime⟩ ht
  have keeps := step_keepsMark ht
  exact ⟨keeps.mark hmark, keeps.time htime⟩

end Sys2Proof.Machine

/-! ## TIME_READ, ALIGN_ARM and ALIGN_CANCEL (O55) -/

namespace Sys2Proof.Machine

/-! ### The report of TIME_READ (R118, R122, R184) -/

/-- The level of a tick is low when its sample was, and before its sample while the line is pulled (R122). -/
theorem MarkUnit.tickLevel_eq_low_iff (m : MarkUnit) :
    m.tickLevel = .low ↔
      if m.sampled = .notYet then m.drive = .driving ∨ m.outside = .low
      else (m.recognizer = .ready ∧ m.lowRun ≠ 0) ∨ (m.recognizer = .held ∧ m.highRun = 0) := by
  split
  · next h => rw [MarkUnit.tickLevel_of_notYet h, m.line_eq_low_iff]
  · next h => rw [MarkUnit.tickLevel_of_sampled h, m.sampledLevel_eq_low_iff]

/-- Once the executor has taken its request, a re-arm of the tick stands when no axis starts a pulse (R122, log entry 10). -/
theorem State.rearmStands_eq_false_iff {s : State} (hr : s.mark.sampled = .rearmed) (ht : s.executor.took = true) :
    s.rearmStands = false ↔ ∃ n, s.startsPulse n = true := by
  simp [State.rearmStands, hr, ht, mem_allAxes]

/-- The recognizer is reported HELD where it is, and while a pulse can still undo the re-arm of the tick (log entry 10). -/
theorem State.recognizerShown_eq_held_iff {s : State} (ht : s.executor.took = true) :
    s.recognizerShown = .held ↔
      s.mark.recognizer = .held ∨ (s.mark.sampled = .rearmed ∧ ∃ n, s.startsPulse n = true) := by
  by_cases hr : s.mark.sampled = .rearmed
  · rw [← State.rearmStands_eq_false_iff hr ht]
    unfold State.recognizerShown
    split
    · next undone => exact iff_of_true rfl (.inr undone)
    · next stands => exact (or_iff_left stands).symm
  · rw [State.recognizerShown_of hr]
    exact (or_iff_left fun ⟨h, _⟩ => hr h).symm

theorem AlignState.code_eq_ite (a : AlignState) : a.code = if a = .armed then 1 else 0 := by cases a <;> rfl

theorem DriveState.code_eq_ite (d : DriveState) : d.code = if d = .driving then 1 else 0 := by cases d <;> rfl

theorem Recognizer.code_eq_ite (r : Recognizer) : r.code = if r = .held then 1 else 0 := by cases r <;> rfl

/-- The bytes of a TIME_READ, field by field (R184). -/
theorem State.timeBytes_eq (s : State) :
    s.timeBytes =
      bytesOfNat 6 s.time.tick.toNat ++ [s.time.epoch] ++
        (if s.time.align = .armed then 1 :: bytesOfNat 6 s.time.preload.toNat else [0]) ++
        [byteOfNat s.mark.captureSet.toNat, if s.mark.notify then 1 else 0, if s.mark.drive = .driving then 1 else 0,
         byteOfNat s.mark.remaining, if s.mark.tickLevel = .low then 0 else 1, if s.recognizerShown = .held then 1 else 0] := by
  unfold State.timeBytes
  rw [levelCode_eq_ite, DriveState.code_eq_ite, Recognizer.code_eq_ite]
  cases s.time.align <;> simp [AlignState.code, Stamp.bytes, State.stamp, byteOfFlag]

/-- TIME_READ on a port with a session reports and changes nothing (R118). -/
theorem timeReadServer_eq {s : State} {p : PortId} {ses : Session} (hs : s.session p = some ses) :
    timeReadServer p [] s = .ok (s.timeBytes, s) := sessionRequest_of_some (len := 0) (payload := []) hs rfl

/-! ### The alignment requests (R119) -/

/-- The last byte that spells a number is the last that is sent of it. -/
theorem bytesOfNat_natOfBytes_append_single (n : Nat) (l : List Byte) (b : Byte) :
    bytesOfNat (n + 1) (natOfBytes (l ++ [b])) = bytesOfNat n (natOfBytes l) ++ [b] := by
  have hb : b.toNat < 256 := b.isLt
  have hquot : (natOfBytes l * 256 + b.toNat) / 256 = natOfBytes l := by omega
  have hlast : BitVec.ofNat 8 (natOfBytes l * 256 + b.toNat) = b := by bv_omega
  rw [natOfBytes_append_single, bytesOfNat, hquot, hlast]

/-- The last `n` bytes of a number that bytes spell are the last `n` of these bytes. -/
theorem bytesOfNat_natOfBytes_drop {n : Nat} {l : List Byte} (h : n ≤ l.length) :
    bytesOfNat n (natOfBytes l) = l.drop (l.length - n) := by
  induction n generalizing l with
  | zero => simp [bytesOfNat]
  | succ n ih =>
    cases l using List.reverseRecOn with
    | nil => simp at h
    | append_singleton l b =>
      have hn : n ≤ l.length := by simpa using h
      have hdrop : (l ++ [b]).length - (n + 1) = l.length - n := by simp
      rw [bytesOfNat_natOfBytes_append_single, ih hn, hdrop, List.drop_append_of_le_length (Nat.sub_le _ _)]

section
variable {s : State} {p : PortId} {ses : Session} (hs : s.session p = some ses)
include hs

/-- ALIGN_ARM on a port with a session: its checks in order, then ARMED with the preload (R119). -/
theorem alignArmServer_eq {payload : List Byte} (hl : payload.length = 8) :
    alignArmServer p payload s =
      if 281474976710655 < natOfBytes payload then .error .outOfRange
      else if s.owner .mark ≠ some p then .error .notOwner
      else .ok (payload.drop 2, s.setTime { s.time with align := .armed, preload := BitVec.ofNat 48 (natOfBytes payload) }) := by
  have field : natAt payload 0 8 = natOfBytes payload := by rw [natAt, List.drop_zero, List.take_of_length_le hl.le]
  have beyond : ¬natOfBytes payload < 2 ^ 48 ↔ 281474976710655 < natOfBytes payload := by omega
  rw [alignArmServer, sessionRequest_of_some hs hl, alignArmBody, field, require_bind, requireOwner_bind]
  simp only [beyond]
  split
  · rfl
  · next inside =>
    have fits : (BitVec.ofNat 48 (natOfBytes payload)).toNat = natOfBytes payload :=
      Nat.mod_eq_of_lt (not_not.mp (mt beyond.mp inside))
    have sent : bytesOfNat 6 (natOfBytes payload) = payload.drop 2 := by
      rw [bytesOfNat_natOfBytes_drop (by omega), hl]
    rw [fits, sent]
    rfl

/-- ALIGN_CANCEL on a port with a session: refused without the owner, otherwise IDLE, with the state found answered (R119). -/
theorem alignCancelServer_eq :
    alignCancelServer p [] s =
      if s.owner .mark ≠ some p then .error .notOwner
      else .ok ([if s.time.align = .armed then 1 else 0], s.setTime { s.time with align := .idle, preload := 0 }) := by
  rw [alignCancelServer, sessionRequest_of_some (len := 0) (payload := []) hs rfl, alignCancelBody, requireOwner_bind,
    AlignState.code_eq_ite]
  rfl

end

/-- An accepted request that replaces the timebase is answered, and nothing else changes. -/
theorem timeReplaced_of_ok {s : State} {p : PortId} {code tag : Byte} {payload bytes : List Byte} {serve : Server}
    {x : Timebase} (h : s.nextRequest = some (p, { command := code, tag := tag, payload := payload }))
    (hc : code ≠ codeTimeRead) (he : serve p payload (s.taken p) = .ok (bytes, (s.taken p).setTime x)) :
    let t := executorTakes p { command := code, tag := tag, payload := payload } serve s
    s.answered p { command := code, tag := tag, result := .ok, payload := bytes } t ∧ t.time = x ∧
      t = { s with time := t.time, ports := t.ports, executor := t.executor } := by
  refine ⟨answered_of_ok h hc he rfl rfl, ?_⟩
  rw [executorTakes_of_ok h he]
  exact ⟨rfl, rfl⟩

/-- Settles O55: the report of TIME_READ as the taken request finds the part, and the alignment requests with their checks. -/
theorem timeReadAndAlignmentRequests : Obligations.TimeReadAndAlignmentRequests := by
  intro s p tag ses hs
  refine ⟨fun hn => ⟨_, rfl, ?_⟩, fun payload hl hn => ⟨_, rfl, ?_⟩, fun hn => ⟨_, rfl, ?_⟩⟩
  · have server := timeReadServer_eq (s := s.taken p) hs
    rw [State.timeBytes_eq] at server
    simp only [MarkUnit.tickLevel_eq_low_iff, State.recognizerShown_eq_held_iff (s := s.taken p) rfl] at server
    dsimp only
    rw [executorTakes_of_ok hn server]
    exact ⟨State.answered_deposit _ rfl rfl, rfl⟩
  · refine refused_ite hn (alignArmServer_eq (s := s.taken p) hs hl) fun _ server => refused_ite hn server fun _ server => ?_
    exact timeReplaced_of_ok hn (by decide) server
  · refine refused_ite hn (alignCancelServer_eq (s := s.taken p) hs) fun _ server => ?_
    exact timeReplaced_of_ok hn (by decide) server

end Sys2Proof.Machine

/-! ## What a happening may do to sessions and owners (O12, O13, O17) -/

namespace Sys2Proof.Machine

/-- The fields of a session that no event and no reader touches: rank, idle limit and idle timer (R132). -/
def Session.tenure (ses : Session) : Fin 4 × BitVec 16 × Nat := (ses.rank, ses.idleLimit, ses.elapsed)

/-- From `s` to `t` every port has its session with rank, limit and timer as they were, and every resource its owner. -/
structure KeepsTenures (s t : State) : Prop where
  claims : t.claims = s.claims
  session : ∀ p, (t.session p).map Session.tenure = (s.session p).map Session.tenure

namespace KeepsTenures

@[refl] theorem refl (s : State) : KeepsTenures s s := ⟨rfl, fun _ => rfl⟩

theorem trans (s t u : State) (h : KeepsTenures s t) (k : KeepsTenures t u) : KeepsTenures s u :=
  ⟨k.claims.trans h.claims, fun p => (k.session p).trans (h.session p)⟩

/-- A fold of operations that keep sessions and owners keeps them. -/
theorem foldl {α : Type} (f : State → α → State) (h : ∀ t x, KeepsTenures t (f t x)) (l : List α) (s : State) :
    KeepsTenures s (l.foldl f s) := foldl_reaches KeepsTenures refl trans f h l s

/-- A choice between operations that keep sessions and owners keeps them. -/
theorem ite {b : Prop} [Decidable b] {s t u : State} (h : KeepsTenures s t) (k : KeepsTenures s u) :
    KeepsTenures s (if b then t else u) := by
  split
  · exact h
  · exact k

/-- A change of other units alone. -/
theorem of_others {s t : State} (hs : t.sessions = s.sessions) (hc : t.claims = s.claims) : KeepsTenures s t :=
  ⟨hc, fun p => by rw [State.session, hs, State.session]⟩

theorem owner {s t : State} (h : KeepsTenures s t) (r : Resource) : t.owner r = s.owner r := by
  rw [State.owner, h.claims, State.owner]

/-- A session that is found after it was there before, with the same rank, limit and timer. -/
theorem before {s t : State} (h : KeepsTenures s t) {p : PortId} {ses : Session} (hs : t.session p = some ses) :
    ∃ old, s.session p = some old ∧ old.tenure = ses.tenure := by
  have key := h.session p
  rw [hs] at key
  exact Option.map_eq_some_iff.mp key.symm

theorem isSome {s t : State} (h : KeepsTenures s t) (p : PortId) : (t.session p).isSome = (s.session p).isSome := by
  simpa using congrArg Option.isSome (h.session p)

end KeepsTenures

/-! ### Events, readers and captures (R10, R14, R31, R152) -/

theorem OnlyGates.keepsTenures {s t : State} (h : OnlyGates s t) : KeepsTenures s t := .of_others (by rw [h]) (by rw [h])
theorem OnlyMet.keepsTenures {s t : State} (h : OnlyMet s t) : KeepsTenures s t := .of_others (by rw [h]) (by rw [h])
theorem OnlyPorts.keepsTenures {s t : State} (h : OnlyPorts s t) : KeepsTenures s t := .of_others (by rw [h]) (by rw [h])

/-- A session set to one with the rank, the limit and the timer of the port's session. -/
theorem State.setSession_keepsTenures {s : State} {p : PortId} {ses new : Session} (hs : s.session p = some ses)
    (h : new.tenure = ses.tenure) : KeepsTenures s (s.setSession p (some new)) := by
  refine ⟨rfl, fun q => ?_⟩
  rw [State.setSession_session]
  split
  · next hq => rw [hq, hs, Option.map_some, h, Option.map_some]
  · rfl

theorem State.raiseTo_keepsTenures (s : State) (p : PortId) (ev : Event) : KeepsTenures s (s.raiseTo p ev) := by
  unfold State.raiseTo
  split
  · exact KeepsTenures.refl s
  · next ses hs => exact State.setSession_keepsTenures hs rfl

theorem State.raiseToOwner_keepsTenures (s : State) (r : Resource) (ev : Event) : KeepsTenures s (s.raiseToOwner r ev) := by
  unfold State.raiseToOwner
  split
  · exact KeepsTenures.refl s
  · exact s.raiseTo_keepsTenures _ ev

/-- A raising to the owner of a resource after what keeps sessions and owners. -/
theorem KeepsTenures.raiseToOwner {s t : State} (h : KeepsTenures s t) (r : Resource) (ev : Event) :
    KeepsTenures s (t.raiseToOwner r ev) := trans _ _ _ h (t.raiseToOwner_keepsTenures r ev)

theorem State.raiseToAll_keepsTenures (s : State) (ev : Event) : KeepsTenures s (s.raiseToAll ev) :=
  KeepsTenures.foldl _ (fun t p => t.raiseTo_keepsTenures p ev) allPorts s

theorem State.setReader_keepsTenures (s : State) (p : PortId) (r : Option Reader) : KeepsTenures s (s.setReader p r) := by
  unfold State.setReader
  split
  · exact KeepsTenures.refl s
  · next ses hs => exact State.setSession_keepsTenures hs rfl

theorem State.levelCheck_keepsTenures (s : State) (p : PortId) : KeepsTenures s (s.levelCheck p) := by
  have set := s.setReader_keepsTenures p
  unfold State.levelCheck
  split
  · exact KeepsTenures.refl s
  · exact KeepsTenures.ite (set _)
      (KeepsTenures.ite (KeepsTenures.refl s) (KeepsTenures.trans _ _ _ (set _) (State.raiseTo_keepsTenures _ p _)))

/-- A reader set anew, and its level checked (R31). -/
theorem State.setReader_levelCheck_keepsTenures (s : State) (p : PortId) (r : Option Reader) :
    KeepsTenures s ((s.setReader p r).levelCheck p) :=
  KeepsTenures.trans _ _ _ (s.setReader_keepsTenures p r) (State.levelCheck_keepsTenures _ p)

theorem State.lap_keepsTenures (tail : Seq) (s : State) (p : PortId) : KeepsTenures s (State.lap tail s p) := by
  unfold State.lap
  split
  · exact KeepsTenures.refl s
  · exact KeepsTenures.ite
      (KeepsTenures.trans _ _ _ (s.setReader_keepsTenures p _) (State.raiseTo_keepsTenures _ p _)) (KeepsTenures.refl s)

theorem State.setLog_keepsTenures (s : State) (l : CaptureLog) : KeepsTenures s (s.setLog l) := .of_others rfl rfl

theorem State.write_keepsTenures (s : State) (c : Capture) : KeepsTenures s (s.write c) := by
  unfold State.write State.levelChecks
  exact KeepsTenures.trans _ _ _ (s.setLog_keepsTenures _) (KeepsTenures.foldl _ State.levelCheck_keepsTenures allPorts _)

theorem State.evict_keepsTenures (s : State) : KeepsTenures s s.evict := by
  unfold State.evict
  exact KeepsTenures.trans _ _ _ (s.setLog_keepsTenures _) (KeepsTenures.foldl _ (State.lap_keepsTenures _) allPorts _)

theorem State.drop_keepsTenures (s : State) : KeepsTenures s s.drop := by
  unfold State.drop State.raiseToReaders
  exact KeepsTenures.trans _ _ _ (s.setLog_keepsTenures _) (KeepsTenures.foldl _
    (fun t p => KeepsTenures.ite (t.raiseTo_keepsTenures p .logDrop) (KeepsTenures.refl t)) allPorts _)

theorem State.capture_keepsTenures (s : State) (c : Capture) : KeepsTenures s (s.capture c).1 := by
  unfold State.capture
  split
  · dsimp only
    exact s.write_keepsTenures c
  · split
    · dsimp only
      exact s.drop_keepsTenures
    · dsimp only
      exact KeepsTenures.trans _ _ _ s.evict_keepsTenures (s.evict.write_keepsTenures c)

theorem OnlyFiring.claims {s t : State} (h : OnlyFiring s t) : t.claims = s.claims := by rw [h]

theorem State.handOver_keepsTenures (s : State) (c : Capture) : KeepsTenures s (s.handOver c).1 := by
  have outcome : (s.handOver c).1.claims = (s.capture c).1.claims :=
    (s.handOver_only c).claims.trans (s.capture_only c).onlyFiring.claims.symm
  exact KeepsTenures.trans _ _ _ (s.capture_keepsTenures c) (.of_others (s.handOver_sessions c) outcome)

theorem State.arrive_keepsTenures (s : State) (now rest : List Capture) : KeepsTenures s (s.arrive now rest) :=
  KeepsTenures.trans s { s with underway := rest } _ (.of_others rfl rfl)
    (KeepsTenures.foldl _ State.handOver_keepsTenures now _)

/-- A happening that keeps sessions and owners, and then brings captures to the log. -/
theorem KeepsTenures.reachLog {s t : State} (h : KeepsTenures s t) (order : LogOrder) : KeepsTenures s (t.reachLog order) :=
  trans _ _ _ h (t.arrive_keepsTenures _ _)

/-! ### Channels and lines (R45, R49, R51, R52, R54) -/

theorem State.setChannel_keepsTenures (s : State) (c : ChannelId) (x : Channel) : KeepsTenures s (s.setChannel c x) :=
  .of_others rfl rfl

theorem State.request_keepsTenures (s : State) (c : Capture) : KeepsTenures s (s.request c) := .of_others rfl rfl

theorem State.fire_keepsTenures (s : State) (c : ChannelId) : KeepsTenures s (s.fire c) := by
  have noticed : KeepsTenures s (s.noticeAll c) := .of_others (s.noticeAll_sessions c) (by rw [s.noticeAll_only c])
  unfold State.fire
  exact KeepsTenures.trans _ _ _ (KeepsTenures.ite (noticed.raiseToOwner _ _) noticed) (State.setChannel_keepsTenures _ c _)

theorem State.triggerEvent_keepsTenures (s : State) (c : ChannelId) : KeepsTenures s (s.triggerEvent c) := by
  unfold State.triggerEvent
  dsimp only
  split
  · exact KeepsTenures.refl s
  · exact KeepsTenures.refl s
  · exact KeepsTenures.trans _ _ _ (s.request_keepsTenures _) (State.fire_keepsTenures _ c)
  · exact (s.setChannel_keepsTenures c _).raiseToOwner _ _
  · exact (s.setChannel_keepsTenures c _).raiseToOwner _ _

/-- Trigger events after what keeps sessions and owners. -/
theorem KeepsTenures.triggerEvents {s t : State} (h : KeepsTenures s t) (l : List ChannelId) :
    KeepsTenures s (t.triggerEvents l) := trans _ _ _ h (foldl _ State.triggerEvent_keepsTenures l t)

theorem State.takeBurstStep_keepsTenures (s : State) (c : ChannelId) : KeepsTenures s (s.takeBurstStep c) := by
  have stepped := KeepsTenures.trans _ _ _ (s.request_keepsTenures (s.channelCapture c (s.channel c).nextIndex))
    (State.setChannel_keepsTenures _ c (s.channel c).afterStep)
  exact KeepsTenures.ite (KeepsTenures.ite stepped (stepped.raiseToOwner _ _)) (KeepsTenures.refl s)

theorem State.setLine_keepsTenures (s : State) (l : LineId) (x : TrigLine) : KeepsTenures s (s.setLine l x) :=
  .of_others rfl rfl

theorem State.sampleTrigLine_keepsTenures (s : State) (l : LineId) (order : List ChannelId) :
    KeepsTenures s (s.sampleTrigLine l order) :=
  KeepsTenures.ite ((s.setLine_keepsTenures l _).triggerEvents _) (s.setLine_keepsTenures l _)

theorem State.showTrigLine_keepsTenures (s : State) (l : LineId) (raw : Level) (order : List ChannelId) :
    KeepsTenures s (s.showTrigLine l raw order) :=
  KeepsTenures.ite (s.setLine_keepsTenures l _)
    (KeepsTenures.trans _ _ _ (s.setLine_keepsTenures l _) (State.sampleTrigLine_keepsTenures _ l order))

/-! ### Offers and axes (R72, R87, R99 to R101) -/

theorem State.setMark_keepsTenures (s : State) (m : MarkUnit) : KeepsTenures s (s.setMark m) := .of_others rfl rfl
theorem State.setAxis_keepsTenures (s : State) (n : AxisId) (x : Axis) : KeepsTenures s (s.setAxis n x) := .of_others rfl rfl

theorem State.requestMark_keepsTenures (s : State) (e : EntryId) : KeepsTenures s (s.requestMark e) :=
  KeepsTenures.ite (s.setMark_keepsTenures _) (s.setEntry_only e _).keepsTenures

theorem State.hit_keepsTenures (s : State) (e : EntryId) : KeepsTenures s (s.hit e) := by
  have recorded := (s.setEntry_only e ((s.entry e).recordHit s.stamp)).keepsTenures
  have told : KeepsTenures s (if (s.entry e).event then
      (s.setEntry e ((s.entry e).recordHit s.stamp)).raiseToOwner (.entry e) (.cmpHit e)
      else s.setEntry e ((s.entry e).recordHit s.stamp)) :=
    KeepsTenures.ite (recorded.raiseToOwner _ _) recorded
  have pulsed := KeepsTenures.trans _ _ _ told (State.pulseGates_only _ e).keepsTenures
  exact KeepsTenures.ite (KeepsTenures.trans _ _ _ pulsed (State.requestMark_keepsTenures _ e)) pulsed

theorem State.offerEntry_keepsTenures (kind : OfferKind) (v : Int) (s : State) (e : EntryId) :
    KeepsTenures s (State.offerEntry kind v s e) := by
  have met := (s.setMet_only e ((s.entry e).condition v)).keepsTenures
  exact KeepsTenures.ite (KeepsTenures.refl s)
    (KeepsTenures.ite (KeepsTenures.trans _ _ _ met (State.hit_keepsTenures _ e)) met)

/-- An axis set anew, which then offers its count. -/
theorem State.setAxis_offer_keepsTenures (s : State) (n : AxisId) (x : Axis) (kind : OfferKind) (entries : List EntryId) :
    KeepsTenures s ((s.setAxis n x).offer n kind entries) :=
  KeepsTenures.trans _ _ _ (s.setAxis_keepsTenures n x) (KeepsTenures.foldl _ (State.offerEntry_keepsTenures kind _) _ _)

theorem State.faultAxis_keepsTenures (s : State) (n : AxisId) (x : Axis) (cause : FaultCause) :
    KeepsTenures s (s.faultAxis n x cause) := (s.setAxis_keepsTenures n _).raiseToOwner _ _

theorem State.applyDecoded_keepsTenures (s : State) (n : AxisId) (d : Decoded) (entries : List EntryId)
    (channels : List ChannelId) : KeepsTenures s (s.applyDecoded n d entries channels) := by
  unfold State.applyDecoded
  dsimp only
  split
  · exact KeepsTenures.refl s
  · split
    · exact KeepsTenures.refl s
    · exact s.faultAxis_keepsTenures n _ _
    · split
      · exact (s.setAxis_offer_keepsTenures n _ .step entries).triggerEvents _
      · exact s.faultAxis_keepsTenures n _ _

theorem State.sampleAB_keepsTenures (s : State) (n : AxisId) (entries : List EntryId) (channels : List ChannelId) :
    KeepsTenures s (s.sampleAB n entries channels) :=
  KeepsTenures.trans _ _ _ (s.setAxis_keepsTenures n _) (State.applyDecoded_keepsTenures _ n _ entries channels)

theorem State.sampleZ_keepsTenures (s : State) (n : AxisId) (channels : List ChannelId) :
    KeepsTenures s (s.sampleZ n channels) :=
  KeepsTenures.ite ((s.setAxis_keepsTenures n _).triggerEvents _) (s.setAxis_keepsTenures n _)

theorem State.showAxis_keepsTenures (s : State) (n : AxisId) (input : AxisInput) : KeepsTenures s (s.showAxis n input) := by
  have shown := s.setAxis_keepsTenures n
  cases input with
  | ab a b entries channels =>
    have sampled := s.sampleAB_keepsTenures n entries channels.events
    exact KeepsTenures.ite (shown _) (KeepsTenures.ite (KeepsTenures.trans _ _ _ sampled (State.setAxis_keepsTenures _ n _))
      (KeepsTenures.trans _ _ _ (shown _) (State.sampleAB_keepsTenures _ n _ _)))
  | z z channels =>
    exact KeepsTenures.ite (shown _) (KeepsTenures.trans _ _ _ (shown _) (State.sampleZ_keepsTenures _ n _))

/-! ### The MARK line (R120, R123, R124, R126) -/

theorem State.takeMarkPulseEnd_keepsTenures (s : State) : KeepsTenures s s.takeMarkPulseEnd :=
  KeepsTenures.ite (s.setMark_keepsTenures _) (KeepsTenures.refl s)

theorem State.takeRearm_keepsTenures (s : State) : KeepsTenures s s.takeRearm :=
  KeepsTenures.ite (s.setMark_keepsTenures _) (KeepsTenures.refl s)

theorem State.setTime_keepsTenures (s : State) (t : Timebase) : KeepsTenures s (s.setTime t) := .of_others rfl rfl

theorem State.alignAtEdge_keepsTenures (s : State) : KeepsTenures s s.alignAtEdge :=
  KeepsTenures.ite (KeepsTenures.trans _ _ _ (s.setTime_keepsTenures _) (State.raiseToAll_keepsTenures _ _))
    (KeepsTenures.refl s)

theorem State.markCapture_keepsTenures (s : State) : KeepsTenures s s.markCapture :=
  KeepsTenures.ite (KeepsTenures.refl s) (s.request_keepsTenures _)

theorem State.markNotify_keepsTenures (s : State) : KeepsTenures s s.markNotify :=
  KeepsTenures.ite (s.raiseToAll_keepsTenures _) (KeepsTenures.refl s)

theorem State.recogniseEdge_keepsTenures (s : State) (order : List ChannelId) : KeepsTenures s (s.recogniseEdge order) := by
  have captured := KeepsTenures.trans _ _ _ s.alignAtEdge_keepsTenures (State.markCapture_keepsTenures _)
  exact KeepsTenures.trans _ _ _ (captured.triggerEvents _) (State.markNotify_keepsTenures _)

theorem State.sampleMark_keepsTenures (s : State) (order : List ChannelId) : KeepsTenures s (s.sampleMark order) := by
  have sampled := s.setMark_keepsTenures s.mark.sample.1
  exact KeepsTenures.ite (KeepsTenures.trans _ _ _ sampled (State.recogniseEdge_keepsTenures _ order)) sampled

theorem State.takeRecognisedEdge_keepsTenures (s : State) (order : List ChannelId) :
    KeepsTenures s (s.takeRecognisedEdge order) :=
  KeepsTenures.ite (s.sampleMark_keepsTenures order) (KeepsTenures.refl s)

/-! ### The end of a tick, on the field side (log entry 2) -/

theorem State.sampleAxesLeft_keepsTenures (s : State) : KeepsTenures s s.sampleAxesLeft :=
  KeepsTenures.foldl _ (fun t n => KeepsTenures.trans _ _ _
    (KeepsTenures.ite (KeepsTenures.refl t) (t.sampleAB_keepsTenures n [] []))
    (KeepsTenures.ite (KeepsTenures.refl _) (State.sampleZ_keepsTenures _ n []))) allAxes s

theorem State.sampleLinesLeft_keepsTenures (s : State) : KeepsTenures s s.sampleLinesLeft :=
  KeepsTenures.foldl _ (fun t l => KeepsTenures.ite (KeepsTenures.refl t) (t.sampleTrigLine_keepsTenures l [])) allLines s

theorem State.endFieldSide_keepsTenures (s : State) : KeepsTenures s s.endFieldSide := by
  have axes := KeepsTenures.trans _ _ _ s.takeMarkPulseEnd_keepsTenures (State.sampleAxesLeft_keepsTenures _)
  have lines := KeepsTenures.trans _ _ _ axes (State.sampleLinesLeft_keepsTenures _)
  have bursts := KeepsTenures.trans _ _ _ lines (KeepsTenures.foldl _ State.takeBurstStep_keepsTenures allChannels _)
  have gates := KeepsTenures.trans _ _ _ bursts (State.gatePulseEndsLeft_only _).keepsTenures
  exact KeepsTenures.trans _ _ _ gates (State.arrive_keepsTenures _ _ _)

theorem State.sampleMarkLeft_keepsTenures (s : State) : KeepsTenures s s.sampleMarkLeft :=
  KeepsTenures.ite (s.sampleMark_keepsTenures []) (KeepsTenures.refl s)

/-! ### The requests that leave sessions and owners (R172) -/

/-- A request that keeps sessions and owners. -/
def Server.KeepsTenures (serve : Server) : Prop := ∀ p payload s, Leaves (Machine.KeepsTenures s) (serve p payload s)

/-- A request that only reports keeps sessions and owners. -/
theorem leaves_report_keepsTenures {s : State} (payload : List Byte) : Leaves (KeepsTenures s) (.ok (payload, s)) :=
  leaves_ok (KeepsTenures.refl s)

theorem pingServer_keepsTenures : Server.KeepsTenures pingServer := fun _ _ _ =>
  leaves_sessionRequest fun _ _ _ => leaves_report_keepsTenures _

theorem deviceInfoServer_keepsTenures : Server.KeepsTenures deviceInfoServer := fun _ _ _ =>
  leaves_sessionRequest fun _ _ _ => leaves_report_keepsTenures _

theorem whoOwnsServer_keepsTenures : Server.KeepsTenures whoOwnsServer := fun _ _ _ =>
  leaves_sessionRequest fun _ _ _ => by
    unfold whoOwnsBody
    split
    · exact leaves_report_keepsTenures _
    · exact leaves_bind fun _ _ => leaves_report_keepsTenures _

theorem axisSetupServer_keepsTenures : Server.KeepsTenures axisSetupServer := fun _ _ s =>
  leaves_sessionRequest fun _ _ _ => leaves_bind fun n _ => leaves_bind fun _ _ => leaves_bind fun _ _ =>
    leaves_bind fun _ _ => leaves_bind fun _ _ => leaves_ok (s.setAxis_keepsTenures n _)

theorem axisSpanServer_keepsTenures : Server.KeepsTenures axisSpanServer := fun _ _ s =>
  leaves_sessionRequest fun _ _ _ => leaves_bind fun n _ => leaves_bind fun _ _ => leaves_bind fun _ _ =>
    leaves_ok (s.setAxis_offer_keepsTenures n _ _ _)

theorem axisPresetServer_keepsTenures : Server.KeepsTenures axisPresetServer := fun _ _ s =>
  leaves_sessionRequest fun _ _ _ => leaves_bind fun n _ => leaves_bind fun _ _ => leaves_bind fun _ _ =>
    leaves_bind fun _ _ => leaves_ok (s.setAxis_offer_keepsTenures n _ _ _)

theorem axisClearFaultServer_keepsTenures : Server.KeepsTenures axisClearFaultServer := fun _ _ s =>
  leaves_sessionRequest fun _ _ _ => leaves_bind fun n _ => leaves_bind fun _ _ => leaves_bind fun _ _ =>
    leaves_bind fun _ _ => leaves_ok (s.setAxis_offer_keepsTenures n _ _ _)

theorem axisReadServer_keepsTenures : Server.KeepsTenures axisReadServer := fun _ _ _ =>
  leaves_sessionRequest fun _ _ _ => leaves_bind fun _ _ => leaves_bind fun _ _ => leaves_report_keepsTenures _

theorem snapServer_keepsTenures : Server.KeepsTenures snapServer := fun _ _ s =>
  leaves_sessionRequest fun _ _ _ => leaves_bind fun _ _ => leaves_bind fun _ _ => leaves_bind fun _ _ => by
    dsimp only
    split
    · exact leaves_ok (s.capture_keepsTenures _)
    · exact leaves_report_keepsTenures _

theorem timeReadServer_keepsTenures : Server.KeepsTenures timeReadServer := fun _ _ _ =>
  leaves_sessionRequest fun _ _ _ => leaves_report_keepsTenures _

theorem alignArmServer_keepsTenures : Server.KeepsTenures alignArmServer := fun _ _ s =>
  leaves_sessionRequest fun _ _ _ => leaves_bind fun _ _ => leaves_bind fun _ _ => leaves_ok (s.setTime_keepsTenures _)

theorem alignCancelServer_keepsTenures : Server.KeepsTenures alignCancelServer := fun _ _ s =>
  leaves_sessionRequest fun _ _ _ => leaves_bind fun _ _ => leaves_ok (s.setTime_keepsTenures _)

theorem markSetupServer_keepsTenures : Server.KeepsTenures markSetupServer := fun _ _ s =>
  leaves_sessionRequest fun _ _ _ => leaves_bind fun _ _ => leaves_bind fun _ _ => leaves_bind fun _ _ =>
    leaves_ok (s.setMark_keepsTenures _)

theorem markPulseServer_keepsTenures : Server.KeepsTenures markPulseServer := fun _ _ s =>
  leaves_sessionRequest fun _ _ _ => leaves_bind fun _ _ => leaves_ok (s.setMark_keepsTenures _)

theorem trigSetupServer_keepsTenures : Server.KeepsTenures trigSetupServer := fun _ _ s =>
  leaves_sessionRequest fun _ _ _ => leaves_bind fun c _ => leaves_bind fun _ _ => leaves_bind fun _ _ =>
    leaves_bind fun _ _ =>
      leaves_ok (KeepsTenures.trans _ _ _ (s.arrive_keepsTenures _ _) (State.setChannel_keepsTenures _ c _))

theorem trigLineFilterServer_keepsTenures : Server.KeepsTenures trigLineFilterServer := fun _ _ s =>
  leaves_sessionRequest fun _ _ _ => leaves_bind fun l _ => leaves_bind fun _ _ => leaves_ok (s.setLine_keepsTenures l _)

theorem trigArmServer_keepsTenures : Server.KeepsTenures trigArmServer := fun _ _ s =>
  leaves_sessionRequest fun _ _ _ => leaves_bind fun c _ => leaves_bind fun _ _ => leaves_bind fun _ _ =>
    leaves_ok (s.setChannel_keepsTenures c _)

theorem trigDisarmServer_keepsTenures : Server.KeepsTenures trigDisarmServer := fun _ _ s =>
  leaves_sessionRequest fun _ _ _ => leaves_bind fun c _ => leaves_bind fun _ _ =>
    have disarmed := s.setChannel_keepsTenures c (s.channel c).disarmed
    leaves_ok (KeepsTenures.ite (disarmed.raiseToOwner _ _) disarmed)

theorem trigFireServer_keepsTenures : Server.KeepsTenures trigFireServer := fun _ _ s =>
  leaves_sessionRequest fun _ _ _ => leaves_bind fun c _ => leaves_bind fun _ _ => leaves_bind fun _ _ =>
    leaves_ok (KeepsTenures.trans _ _ _ (s.fire_keepsTenures c) (State.handOver_keepsTenures _ _))

theorem trigStatusServer_keepsTenures : Server.KeepsTenures trigStatusServer := fun _ _ _ =>
  leaves_sessionRequest fun _ _ _ => leaves_bind fun _ _ => leaves_report_keepsTenures _

theorem logSubscribeServer_keepsTenures : Server.KeepsTenures logSubscribeServer := fun p _ s =>
  leaves_sessionRequest fun _ _ _ => leaves_bind fun _ _ => leaves_bind fun _ _ => leaves_bind fun _ _ =>
    leaves_ok (s.setReader_levelCheck_keepsTenures p _)

theorem logUnsubscribeServer_keepsTenures : Server.KeepsTenures logUnsubscribeServer := fun p _ s =>
  leaves_sessionRequest fun _ _ _ => leaves_bind fun _ _ => leaves_ok (s.setReader_keepsTenures p none)

theorem logFetchServer_keepsTenures : Server.KeepsTenures logFetchServer := fun _ _ _ =>
  leaves_sessionRequest fun _ _ _ => leaves_bind fun _ _ => leaves_bind fun _ _ => leaves_report_keepsTenures _

theorem logReleaseServer_keepsTenures : Server.KeepsTenures logReleaseServer := fun p _ s =>
  leaves_sessionRequest fun _ _ _ => leaves_bind fun _ _ => by
    dsimp only
    split
    · exact leaves_error _
    · exact leaves_report_keepsTenures _
    · exact leaves_ok (s.setReader_levelCheck_keepsTenures p _)

theorem logStatusServer_keepsTenures : Server.KeepsTenures logStatusServer := fun _ _ _ =>
  leaves_sessionRequest fun _ _ _ => by
    unfold logStatusBody
    dsimp only
    split <;> exact leaves_report_keepsTenures _

theorem cmpSetupServer_keepsTenures : Server.KeepsTenures cmpSetupServer := fun _ _ s =>
  leaves_sessionRequest fun _ _ _ => leaves_bind fun e _ => leaves_bind fun _ _ => leaves_bind fun _ _ =>
    leaves_bind fun _ _ => leaves_bind fun _ _ => leaves_bind fun _ _ => leaves_bind fun _ _ =>
      leaves_ok (s.replaceEntry_only e _).keepsTenures

theorem cmpEnableServer_keepsTenures : Server.KeepsTenures cmpEnableServer := fun _ _ s =>
  leaves_sessionRequest fun _ _ _ => leaves_bind fun e _ => leaves_bind fun _ _ =>
    leaves_ok (s.replaceEntry_only e _).keepsTenures

theorem cmpDisableServer_keepsTenures : Server.KeepsTenures cmpDisableServer := fun _ _ s =>
  leaves_sessionRequest fun _ _ _ => leaves_bind fun e _ => leaves_bind fun _ _ =>
    leaves_ok (s.replaceEntry_only e _).keepsTenures

theorem cmpStatusServer_keepsTenures : Server.KeepsTenures cmpStatusServer := fun _ _ _ =>
  leaves_sessionRequest fun _ _ _ => leaves_bind fun _ _ => leaves_report_keepsTenures _

theorem gateSetupServer_keepsTenures : Server.KeepsTenures gateSetupServer := fun _ _ _ =>
  leaves_sessionRequest fun _ _ _ => leaves_bind fun _ _ => leaves_bind fun _ _ => leaves_bind fun _ _ =>
    leaves_bind fun _ _ => leaves_bind fun _ _ => leaves_bind fun _ _ => leaves_ok (.of_others rfl rfl)

theorem gateSetServer_keepsTenures : Server.KeepsTenures gateSetServer := fun _ _ _ =>
  leaves_sessionRequest fun _ _ _ => leaves_bind fun _ _ => leaves_bind fun _ _ => leaves_bind fun _ _ =>
    leaves_ok (.of_others rfl rfl)

theorem gateStatusServer_keepsTenures : Server.KeepsTenures gateStatusServer := fun _ _ _ =>
  leaves_sessionRequest fun _ _ _ => leaves_bind fun _ _ => leaves_report_keepsTenures _

theorem eventMaskServer_keepsTenures : Server.KeepsTenures eventMaskServer := fun _ _ _ =>
  leaves_sessionRequest fun _ hs _ => leaves_bind fun _ _ => leaves_ok (State.setSession_keepsTenures hs rfl)

theorem eventReadServer_keepsTenures : Server.KeepsTenures eventReadServer := fun _ _ _ =>
  leaves_sessionRequest fun _ _ _ => leaves_report_keepsTenures _

theorem eventAckServer_keepsTenures : Server.KeepsTenures eventAckServer := fun _ _ _ =>
  leaves_sessionRequest fun _ hs _ => leaves_bind fun _ _ => leaves_ok (State.setSession_keepsTenures hs rfl)

/-- The requests that may give or take an owner. -/
def ownerCodes : List Byte := [codeClose, codeDeviceReset, codeClaim, codeRelease]

/-- The requests that may open or close a session, or give or take an owner. -/
def tenureCodes : List Byte := codeOpen :: ownerCodes

/-- Every other request keeps sessions and owners. -/
theorem requestTable_keepsTenures : ∀ e ∈ requestTable, e.1 ∈ tenureCodes ∨ Server.KeepsTenures e.2 := by
  simp only [requestTable, List.forall_mem_cons]
  exact ⟨.inl (by decide), .inl (by decide), .inr pingServer_keepsTenures, .inr deviceInfoServer_keepsTenures,
    .inl (by decide), .inl (by decide), .inl (by decide), .inr whoOwnsServer_keepsTenures,
    .inr axisSetupServer_keepsTenures, .inr axisSpanServer_keepsTenures, .inr axisPresetServer_keepsTenures,
    .inr axisClearFaultServer_keepsTenures, .inr axisReadServer_keepsTenures, .inr snapServer_keepsTenures,
    .inr timeReadServer_keepsTenures, .inr alignArmServer_keepsTenures, .inr alignCancelServer_keepsTenures,
    .inr markSetupServer_keepsTenures, .inr markPulseServer_keepsTenures, .inr trigSetupServer_keepsTenures,
    .inr trigLineFilterServer_keepsTenures, .inr trigArmServer_keepsTenures, .inr trigDisarmServer_keepsTenures,
    .inr trigFireServer_keepsTenures, .inr trigStatusServer_keepsTenures, .inr logSubscribeServer_keepsTenures,
    .inr logUnsubscribeServer_keepsTenures, .inr logFetchServer_keepsTenures, .inr logReleaseServer_keepsTenures,
    .inr logStatusServer_keepsTenures, .inr cmpSetupServer_keepsTenures, .inr cmpEnableServer_keepsTenures,
    .inr cmpDisableServer_keepsTenures, .inr cmpStatusServer_keepsTenures, .inr gateSetupServer_keepsTenures,
    .inr gateSetServer_keepsTenures, .inr gateStatusServer_keepsTenures, .inr eventMaskServer_keepsTenures,
    .inr eventReadServer_keepsTenures, .inr eventAckServer_keepsTenures, List.forall_mem_nil _⟩

end Sys2Proof.Machine

/-! ## Every step keeps ranks, owners and idle timers (O12, O13) -/

namespace Sys2Proof.Machine

/-- From `s` to `t` ranks have stayed distinct, owners open sessions, and idle timers within their limits (R132, R135, R144). -/
structure KeepsSessions (s t : State) : Prop where
  ranks : s.ranksDistinct → t.ranksDistinct
  owners : s.ownersOpen → t.ownersOpen
  timers : s.timersOk → t.timersOk

namespace KeepsSessions

@[refl] theorem refl (s : State) : KeepsSessions s s := ⟨id, id, id⟩

theorem trans (s t u : State) (h : KeepsSessions s t) (k : KeepsSessions t u) : KeepsSessions s u :=
  ⟨k.ranks ∘ h.ranks, k.owners ∘ h.owners, k.timers ∘ h.timers⟩

/-- A fold of operations that keep the sessions keeps them. -/
theorem foldl {α : Type} (f : State → α → State) (h : ∀ t x, KeepsSessions t (f t x)) (l : List α) (s : State) :
    KeepsSessions s (l.foldl f s) := foldl_reaches KeepsSessions refl trans f h l s

/-- A choice between operations that keep the sessions keeps them. -/
theorem ite {b : Prop} [Decidable b] {s t u : State} (h : KeepsSessions s t) (k : KeepsSessions s u) :
    KeepsSessions s (if b then t else u) := by
  split
  · exact h
  · exact k

/-- Whatever opens and closes no session and moves no owner keeps the rest, when no session found after is new. -/
theorem of_before {s t : State} (howners : s.ownersOpen → t.ownersOpen)
    (h : ∀ p ses, t.session p = some ses → ∃ old, s.session p = some old ∧ old.tenure = ses.tenure) : KeepsSessions s t where
  ranks := fun hs p q a b ha hb hab => by
    obtain ⟨a', ha', ea⟩ := h p a ha
    obtain ⟨b', hb', eb⟩ := h q b hb
    simp only [Session.tenure, Prod.mk.injEq] at ea eb
    exact hs p q a' b' ha' hb' (ea.1.trans (hab.trans eb.1.symm))
  owners := howners
  timers := fun hs p ses hp => by
    obtain ⟨old, hold, e⟩ := h p ses hp
    have timer := hs p old hold
    simp only [Session.tenure, Prod.mk.injEq] at e
    obtain ⟨-, hlimit, helapsed⟩ := e
    rwa [Session.limitTicks, hlimit, helapsed] at timer

end KeepsSessions

/-- What keeps every session's rank, limit and timer, and every owner, keeps what holds of them. -/
theorem KeepsTenures.keepsSessions {s t : State} (h : KeepsTenures s t) : KeepsSessions s t :=
  .of_before (fun hs r p ho => (h.isSome p).trans (hs r p (h.owner r ▸ ho))) fun _ _ => h.before

/-- A change of other units alone. -/
theorem KeepsSessions.of_others {s t : State} (hs : t.sessions = s.sessions) (hc : t.claims = s.claims) : KeepsSessions s t :=
  (KeepsTenures.of_others hs hc).keepsSessions

theorem State.setPort_keepsSessions (s : State) (p : PortId) (q : Port) : KeepsSessions s (s.setPort p q) := .of_others rfl rfl

theorem State.discardQueues_keepsSessions (s : State) (p : PortId) (kept : Nat) : KeepsSessions s (s.discardQueues p kept) :=
  .of_others rfl rfl

/-! ### Owners given and taken (R138, R145 to R147) -/

/-- A resource given to an open session (R145, R146). -/
theorem State.setOwner_keepsSessions {s : State} {p : PortId} {ses : Session} (hs : s.session p = some ses) (r : Resource) :
    KeepsSessions s (s.setOwner r (some p)) :=
  .of_before (fun h k q ho => by
    rw [State.setOwner_owner] at ho
    rw [State.setOwner_session]
    split at ho
    · cases ho
      rw [hs]
      rfl
    · exact h k q ho) fun _ ses hq => ⟨ses, hq, rfl⟩

/-- A resource given up takes an owner away (R147). -/
theorem State.giveUp_keepsSessions (s : State) (r : Resource) : KeepsSessions s (s.giveUp r) :=
  .of_before (fun h k q ho => by
    rw [State.giveUp_owner] at ho
    rw [(s.giveUp_only r).session]
    split at ho
    · cases ho
    · exact h k q ho) fun q ses hq => ⟨ses, ((s.giveUp_only r).session q).symm.trans hq, rfl⟩

/-- Giving up what a port owns leaves each resource without an owner that the port owned, and the others theirs (R138). -/
theorem State.giveUpOwned_foldl_owner (p : PortId) (l : List Resource) (s : State) (r : Resource) :
    (l.foldl (State.giveUpOwned p) s).owner r = if r ∈ l ∧ s.owner r = some p then none else s.owner r := by
  induction l generalizing s with
  | nil => simp
  | cons k l ih =>
    have head : (State.giveUpOwned p s k).owner r = if r = k ∧ s.owner r = some p then none else s.owner r := by
      unfold State.giveUpOwned State.owns
      by_cases hk : r = k
      · subst hk
        by_cases ho : s.owner r = some p <;> simp [ho, State.giveUp_owner]
      · split <;> simp [hk, State.giveUp_owner]
    rw [List.foldl_cons, ih, head]
    by_cases hk : r = k <;> by_cases ho : s.owner r = some p <;> simp [hk, ho]

/-- A close takes every resource from the session it closes, and no other (R138). -/
theorem State.closeSession_owner (s : State) (p : PortId) (r : Resource) :
    (s.closeSession p).owner r = if s.owner r = some p then none else s.owner r := by
  rw [s.closeSession_eq, State.setSession_owner, State.giveUpOwned_foldl_owner]
  simp only [mem_allResources, true_and]

/-! ### Sessions opened, reloaded and closed (R133, R134, R138) -/

/-- A session set to one with a rank that no other session holds and a timer within its limit. -/
theorem State.setSession_keepsSessions {s : State} {p : PortId} {new : Session}
    (hrank : s.ranksDistinct → ∀ q ses, q ≠ p → s.session q = some ses → ses.rank ≠ new.rank)
    (htimer : s.timersOk → new.elapsed ≤ new.limitTicks) : KeepsSessions s (s.setSession p (some new)) where
  ranks := fun hs a b x y hx hy hxy => by
    rw [State.setSession_session] at hx hy
    split at hx <;> split at hy
    · next ha hb => rw [ha, hb]
    · next ha hb => cases hx; exact absurd hxy.symm (hrank hs b y hb hy)
    · next ha hb => cases hy; exact absurd hxy (hrank hs a x ha hx)
    · exact hs a b x y hx hy hxy
  owners := fun hs r q ho => by
    rw [State.setSession_session]
    split
    · rfl
    · exact hs r q ho
  timers := fun hs q ses hq => by
    rw [State.setSession_session] at hq
    split at hq
    · cases hq
      exact htimer hs
    · exact hs q ses hq

/-- A reload keeps the rank and sets the timer to 0 (R134). -/
theorem State.reloadTimer_keepsSessions (s : State) (p : PortId) : KeepsSessions s (s.reloadTimer p) := by
  unfold State.reloadTimer
  split
  · exact KeepsSessions.refl s
  · next ses hs =>
    exact State.setSession_keepsSessions (fun h q other hq ho hr => hq (h q p other ses ho hs hr)) fun _ => Nat.zero_le _

/-- With its session a port loses what it owned (R138). -/
theorem State.closeSession_keepsSessions (s : State) (p : PortId) : KeepsSessions s (s.closeSession p) := by
  refine .of_before (fun h r q ho => ?_) fun q ses hq => ?_
  · rw [State.closeSession_owner] at ho
    rw [State.closeSession_session]
    split at ho
    · cases ho
    · next hp =>
      rw [if_neg fun hq : q = p => hp (hq ▸ ho)]
      exact h r q ho
  · rw [State.closeSession_session] at hq
    split at hq
    · cases hq
    · exact ⟨ses, hq, rfl⟩

theorem State.closeAll_keepsSessions (s : State) : KeepsSessions s s.closeAll :=
  KeepsSessions.foldl _ (fun t p => KeepsSessions.ite (t.closeSession_keepsSessions p) (KeepsSessions.refl t)) allPorts s

theorem State.expire_keepsSessions (s : State) (p : PortId) : KeepsSessions s (s.expire p) :=
  KeepsSessions.trans _ _ _ (KeepsSessions.trans _ _ _ (s.closeSession_keepsSessions p)
    (State.discardQueues_keepsSessions _ p 0)) (State.setPort_keepsSessions _ p _)

theorem State.takeExpiry_keepsSessions (s : State) (p : PortId) : KeepsSessions s (s.takeExpiry p) :=
  KeepsSessions.ite (s.expire_keepsSessions p) (KeepsSessions.refl s)

theorem State.expireLast_keepsSessions (s : State) (p : PortId) : KeepsSessions s (s.expireLast p) :=
  KeepsSessions.ite (s.expire_keepsSessions p) (KeepsSessions.refl s)

/-- After pin reset there is no session and no owner (R132, R144). -/
theorem State.pinReset_keepsSessions (s : State) : KeepsSessions s s.pinReset := by
  refine .of_before (fun _ r p ho => ?_) fun p ses hp => ?_
  · exact absurd ((State.reset_owner r).symm.trans ho) nofun
  · exact absurd ((State.reset_session p).symm.trans hp) nofun

theorem State.endTransaction_keepsSessions (s : State) (p : PortId) (received : List Byte) :
    KeepsSessions s (s.endTransaction p received) := by
  have before : KeepsSessions s (s.beforeFrame p) := KeepsSessions.ite (s.expire_keepsSessions p) (KeepsSessions.refl s)
  unfold State.endTransaction
  dsimp only
  split
  · exact KeepsSessions.refl s
  · exact KeepsSessions.refl s
  · split
    · exact s.setPort_keepsSessions p _
    · exact s.setPort_keepsSessions p _
    · exact KeepsSessions.trans _ _ _ (KeepsSessions.trans _ _ _ before (State.setPort_keepsSessions _ p _))
        (State.reloadTimer_keepsSessions _ p)

/-! ### The requests (R133, R137, R142, R145 to R147, R172) -/

/-- A request that keeps the sessions. -/
def Server.KeepsSessions (serve : Server) : Prop := ∀ p payload s, Leaves (Machine.KeepsSessions s) (serve p payload s)

theorem Server.KeepsTenures.keepsSessions {serve : Server} (h : Server.KeepsTenures serve) : Server.KeepsSessions serve :=
  fun p payload s bytes t ht => (h p payload s bytes t ht).keepsSessions

/-- Some open session holds a rank exactly when a port's session has it (R133). -/
theorem State.rankHeld_iff (s : State) (rank : Fin 4) :
    s.rankHeld rank = true ↔ ∃ p, (s.session p).map Session.rank = some rank := by
  simp only [State.rankHeld, List.any_eq_true, mem_allPorts, true_and]
  refine exists_congr fun p => ?_
  cases s.session p <;> simp

/-- OPEN takes a rank that no open session holds, and starts its timer at 0 (R133). -/
theorem openServer_keepsSessions : Server.KeepsSessions openServer := fun _ _ s =>
  leaves_bind fun _ _ => leaves_bind fun rank _ => leaves_bind fun _ _ => leaves_bind fun _ hheld =>
    leaves_ok (State.setSession_keepsSessions (fun _ q other _ ho hr => by
      have held : s.rankHeld rank = true := (s.rankHeld_iff rank).mpr ⟨q, by rw [ho]; exact congrArg some hr⟩
      exact absurd (require_ok hheld) (by simp [held])) fun _ => Nat.zero_le _)

theorem closeServer_keepsSessions : Server.KeepsSessions closeServer := fun p _ s =>
  leaves_sessionRequest fun _ _ _ => leaves_ok (s.closeSession_keepsSessions p)

theorem State.resetBlocks_keepsSessions (s : State) : KeepsSessions s s.resetBlocks := .of_others rfl rfl

theorem deviceResetServer_keepsSessions : Server.KeepsSessions deviceResetServer := fun _ _ s =>
  leaves_sessionRequest fun _ _ _ => leaves_bind fun _ _ =>
    leaves_ok (KeepsSessions.trans _ _ _ s.closeAll_keepsSessions (State.resetBlocks_keepsSessions _))

/-- CLAIM gives a resource to a requester, which has a session (R145, R146). -/
theorem claimServer_keepsSessions : Server.KeepsSessions claimServer := fun _ _ _ =>
  leaves_sessionRequest fun _ hs _ => leaves_bind fun r _ => leaves_bind fun _ _ => by
    have claimed := State.setOwner_keepsSessions hs r
    split
    · exact leaves_ok claimed
    · split
      · exact leaves_ok (KeepsSessions.refl _)
      · split
        · exact leaves_error _
        · split
          · exact leaves_ok (KeepsSessions.trans _ _ _ claimed (State.raiseTo_keepsTenures _ _ _).keepsSessions)
          · exact leaves_error _

theorem releaseServer_keepsSessions : Server.KeepsSessions releaseServer := fun _ _ s =>
  leaves_sessionRequest fun _ _ _ => leaves_bind fun r _ => leaves_bind fun _ _ => leaves_ok (s.giveUp_keepsSessions r)

/-- Each request of the table is the one that its code gives. -/
theorem requestTable_serverOf : ∀ e ∈ requestTable, serverOf e.1 = e.2 := by
  simp only [requestTable, List.forall_mem_cons]
  repeat' constructor
  nofun

/-- Every request of the table keeps the sessions. -/
theorem requestTable_keepsSessions (e : Byte × Server) (he : e ∈ requestTable) : Server.KeepsSessions e.2 := by
  rcases requestTable_keepsTenures e he with hcode | h
  · rw [← requestTable_serverOf e he]
    simp only [tenureCodes, ownerCodes, List.mem_cons, List.not_mem_nil, or_false] at hcode
    rcases hcode with h | h | h | h | h <;> rw [h]
    · exact openServer_keepsSessions
    · exact closeServer_keepsSessions
    · exact deviceResetServer_keepsSessions
    · exact claimServer_keepsSessions
    · exact releaseServer_keepsSessions
  · exact h.keepsSessions

theorem State.discardAll_keepsSessions (s : State) (p : PortId) : KeepsSessions s (s.discardAll p) :=
  .of_others (by rw [s.discardAll_eq]) (by rw [s.discardAll_eq])

theorem State.takeNextRequest_keepsSessions (s : State) : KeepsSessions s s.takeNextRequest :=
  State.takeNextRequest_preserves (P := KeepsSessions s)
    (fun _ _ h => KeepsSessions.trans _ _ _ h (.of_others rfl rfl))
    (fun _ _ _ h => KeepsSessions.trans _ _ _ h (.of_others rfl rfl))
    (fun t h => KeepsSessions.trans _ _ _ h (t.arrive_keepsTenures _ _).keepsSessions)
    (fun t p h => KeepsSessions.trans _ _ _ h (t.discardAll_keepsSessions p))
    (fun e he p payload t ht bytes u hu =>
      KeepsSessions.trans _ _ _ ht (requestTable_keepsSessions e he p payload t bytes u hu)) s (KeepsSessions.refl s)

/-! ### The tick (R135; log entry 2) -/

theorem State.endPorts_keepsSessions (s : State) : KeepsSessions s s.endPorts := by
  have expired := KeepsSessions.foldl _ State.takeExpiry_keepsSessions allPorts s
  have taken := KeepsSessions.trans _ _ _ expired (State.takeNextRequest_keepsSessions _)
  have last := KeepsSessions.trans _ _ _ taken (KeepsSessions.foldl _ State.expireLast_keepsSessions allPorts _)
  exact KeepsSessions.trans _ _ _ last (State.takeNextRequest_keepsSessions _)

theorem State.finishTick_keepsSessions (s : State) : KeepsSessions s s.finishTick := by
  have ports := KeepsSessions.trans _ _ _ s.endFieldSide_keepsTenures.keepsSessions (State.endPorts_keepsSessions _)
  have sampled := KeepsSessions.trans _ _ _ ports (State.sampleMarkLeft_keepsTenures _).keepsSessions
  exact KeepsSessions.trans _ _ _ sampled (State.arrive_keepsTenures _ _ _).keepsSessions

theorem Session.tick_rank (ses : Session) : ses.tick.rank = ses.rank := by
  unfold Session.tick
  split <;> rfl

/-- A timer that has not reached its limit may count once more (R135). -/
theorem Session.tick_elapsed_le {ses : Session} (h : ses.elapsed ≤ ses.limitTicks)
    (hlimit : ses.idleLimit = 0 ∨ ses.elapsed < ses.idleLimit.toNat * 10000) : ses.tick.elapsed ≤ ses.tick.limitTicks := by
  unfold Session.tick
  split
  · exact h
  · next hzero => exact Or.resolve_left hlimit hzero

/-- The idle timers count at the beginning of a tick, once the sessions that have reached their limits are closed (R132, R135). -/
theorem State.beginTick_keepsSessions {s : State} (h : ∀ p, s.expiryDue p = false) : KeepsSessions s s.beginTick where
  ranks := fun hs p q a b ha hb hab => by
    rw [State.beginTick_session] at ha hb
    obtain ⟨x, hx, rfl⟩ := Option.map_eq_some_iff.mp ha
    obtain ⟨y, hy, rfl⟩ := Option.map_eq_some_iff.mp hb
    rw [x.tick_rank, y.tick_rank] at hab
    exact hs p q x y hx hy hab
  owners := fun hs r p ho => by
    rw [State.beginTick_session, Option.isSome_map]
    exact hs r p ho
  timers := fun hs p ses hp => by
    rw [State.beginTick_session] at hp
    obtain ⟨old, hold, rfl⟩ := Option.map_eq_some_iff.mp hp
    exact Session.tick_elapsed_le (hs p old hold) ((s.expiryDue_eq_false_iff p).mp (h p) old hold)

/-! ### The step -/

/-- The happenings that may close a session, reload its timer or take an owner away. -/
def mayMoveTenures : Instr → Bool
  | .pinReset => true
  | .transactionEnd _ _ => true
  | .sessionExpiry _ => true
  | .tickCountAdvance => true
  | _ => false

/-- Every other happening that is no request keeps sessions and owners. -/
theorem exec_keepsTenures_of_happening {c : Instr} {s t : State} (hc : requestOf c = none) (hm : mayMoveTenures c = false)
    (ht : exec c s = .next t) : KeepsTenures s t := by
  cases c with
  | portUnblock p => cases ht; exact (s.unblock_only p).keepsTenures
  | transactionBegin p => cases ht; exact (s.beginTransaction_only p).keepsTenures
  | statusByteShifted p received => cases ht; exact (s.showStatus_only p received).keepsTenures
  | responseDelivered p received => cases ht; exact (s.deliverResponse_only p received).keepsTenures
  | axisLevelChange n input => cases ht; exact (s.showAxis_keepsTenures n input).reachLog _
  | gatePulseEnd g => cases ht; exact (s.takeGatePulseEnd_only g).keepsTenures
  | trigLevelChange l raw channels => cases ht; exact (s.showTrigLine_keepsTenures l raw _).reachLog _
  | burstStep step => cases ht; exact (s.takeBurstStep_keepsTenures step.channel).reachLog _
  | markPulseEnd => cases ht; exact s.takeMarkPulseEnd_keepsTenures
  | recognisedEdge events log => cases ht; exact (s.takeRecognisedEdge_keepsTenures events).reachLog _
  | recognizerRearm => cases ht; exact s.takeRearm_keepsTenures
  | markLineChange outside => cases ht; exact s.setMark_keepsTenures _
  | pinReset => cases hm
  | transactionEnd p received => cases hm
  | sessionExpiry p => cases hm
  | tickCountAdvance => cases hm
  | _ => cases hc

theorem exec_keepsSessions_of_happening {c : Instr} {s t : State} (hc : requestOf c = none) (ht : exec c s = .next t) :
    KeepsSessions s t := by
  cases hm : mayMoveTenures c with
  | false => exact (exec_keepsTenures_of_happening hc hm ht).keepsSessions
  | true =>
    cases c with
    | pinReset => cases ht; exact s.pinReset_keepsSessions
    | transactionEnd p received => cases ht; exact s.endTransaction_keepsSessions p received
    | sessionExpiry p => cases ht; exact s.takeExpiry_keepsSessions p
    | tickCountAdvance =>
      have he : s.finishTick.beginTick = t := Host.Outcome.next.inj ht
      rw [← he]
      exact KeepsSessions.trans _ _ _ s.finishTick_keepsSessions (State.beginTick_keepsSessions s.finishTick_expiryDue)
    | _ => cases hm

theorem exec_keepsSessions {c : Instr} {s t : State} (ht : exec c s = .next t) : KeepsSessions s t := by
  cases hc : requestOf c with
  | none => exact exec_keepsSessions_of_happening hc ht
  | some request =>
    rcases exec_request_cases hc s with he | he <;> rw [he] at ht <;> cases ht
    · exact KeepsSessions.refl s
    · exact s.takeNextRequest_keepsSessions

theorem step_keepsSessions {s t : State} (ht : step s = .next t) : KeepsSessions s t := by
  unfold step at ht
  split at ht
  · cases ht
    exact KeepsSessions.refl s
  · next c rest _ =>
    have front : KeepsSessions s { s with pending := rest } := .of_others rfl rfl
    exact KeepsSessions.trans _ _ _ front (exec_keepsSessions ht)

/-- Settles O12: OPEN alone brings a rank, one that no session holds; CLAIM alone brings an owner, which has a session; and a close
takes the owner fields with the session. -/
theorem stepKeepsRanksAndOwners : Obligations.StepKeepsRanksAndOwners := by
  intro s t ⟨hranks, howners⟩ ht
  have keeps := step_keepsSessions ht
  exact ⟨keeps.ranks hranks, keeps.owners howners⟩

/-- Settles O13: timers count at the beginning of a tick alone, and the end of the tick before has closed every session whose timer
had reached its limit. -/
theorem stepKeepsIdleTimersBelowTheLimit : Obligations.StepKeepsIdleTimersBelowTheLimit :=
  fun _ _ h ht => (step_keepsSessions ht).timers h

end Sys2Proof.Machine

/-! ## What can change an owner (O17) -/

namespace Sys2Proof.Machine

/-- A command of a code that names a request, under the name of an unknown one, changes nothing. -/
theorem exec_of_not_namesItsRequest {c : Instr} (h : ¬NamesItsRequest c) (s : State) : exec c s = .next s := by
  simp only [NamesItsRequest, not_forall] at h
  obtain ⟨p, code, tag, payload, rfl, hc⟩ := h
  exact if_pos (Option.isSome_iff_ne_none.mpr hc)

/-- OPEN leaves every owner (R133). -/
theorem openServer_claims (p : PortId) (payload : List Byte) (s : State) :
    Leaves (fun t => t.claims = s.claims) (openServer p payload s) :=
  leaves_bind fun _ _ => leaves_bind fun _ _ => leaves_bind fun _ _ => leaves_bind fun _ _ => leaves_ok rfl

/-- A code that names none of the requests that may change an owner leaves every owner. -/
theorem serverOf_claims {code : Byte} (h : code ∉ ownerCodes) (p : PortId) (payload : List Byte) (s : State) :
    Leaves (fun t => t.claims = s.claims) (serverOf code p payload s) := by
  cases hl : requestTable.lookup code with
  | none =>
    rw [serverOf, hl]
    exact leaves_unknownAnswer _ p payload s
  | some serve =>
    obtain ⟨l, r, he, -⟩ := List.lookup_eq_some_iff.mp hl
    rcases requestTable_keepsTenures (code, serve) (by simp [he]) with hcode | keeps
    · rcases List.mem_cons.mp hcode with ho | ho
      · obtain rfl : code = codeOpen := ho
        exact openServer_claims p payload s
      · exact absurd ho h
    · rw [serverOf, hl]
      exact fun bytes t ht => (keeps p payload s bytes t ht).claims

/-- A request command that changes an owner is the taking of CLOSE, DEVICE_RESET, CLAIM or RELEASE. -/
theorem exec_request_claims {c : Instr} {p : PortId} {f : Frame} {s t : State} (hc : requestOf c = some (p, f))
    (hw : NamesItsRequest c) (hcode : f.command ∉ ownerCodes) (ht : exec c s = .next t) : t.claims = s.claims := by
  rw [exec_request_of_namesItsRequest hw hc] at ht
  split at ht
  · next hn =>
    have notReset : f.command ≠ codeDeviceReset := fun e => hcode (e ▸ by decide)
    rw [State.takeNextRequest_of_some hn, if_neg notReset] at ht
    cases ht
    exact executorTakes_preserves (P := fun u => u.claims = s.claims) (fun _ _ => id) (fun _ _ _ => id)
      (fun q payload u hu bytes v hv => (serverOf_claims hcode q payload u bytes v hv).trans hu) p f s rfl
  · cases ht
    rfl

/-- The end of a transaction changes an owner only by the expiry that its frame has to wait for (R140, log entry 10). -/
theorem State.endTransaction_claims {s : State} {p : PortId} (h : s.reloadBarred p = false) (received : List Byte) :
    (s.endTransaction p received).claims = s.claims := by
  have before : s.beforeFrame p = s := by simp [State.beforeFrame, h]
  unfold State.endTransaction
  dsimp only
  split
  · rfl
  · rfl
  · split
    · rfl
    · rfl
    · rw [before, State.acceptFrame, State.reloadTimer_only]
      rfl

/-- Settles O17: what is no request and closes no session keeps the claims; the other requests keep them. -/
theorem ownersChangeOnlyByTheseCommands : Obligations.OwnersChangeOnlyByTheseCommands := by
  intro c s t r ht hne
  have changed : t.claims ≠ s.claims := fun h => hne (by rw [State.owner, h, State.owner])
  have hw : NamesItsRequest c := by
    by_contra hw
    rw [exec_of_not_namesItsRequest hw] at ht
    cases ht
    exact changed rfl
  cases hc : requestOf c with
  | none =>
    cases hm : mayMoveTenures c with
    | false => exact absurd (exec_keepsTenures_of_happening hc hm ht).claims changed
    | true =>
      cases c with
      | pinReset => simp
      | tickCountAdvance => simp
      | sessionExpiry p => simp
      | transactionEnd p received =>
        cases hb : s.reloadBarred p with
        | false =>
          cases ht
          exact absurd (State.endTransaction_claims hb received) changed
        | true => simp [hb]
      | _ => cases hm
  | some request =>
    obtain ⟨p, f⟩ := request
    have hcode : f.command ∈ ownerCodes := by
      by_contra hcode
      exact changed (exec_request_claims hc hw hcode ht)
    cases c with
    | closeSession q tag payload => simp
    | deviceReset q tag payload => simp
    | claim q tag payload => simp
    | release q tag payload => simp
    | unknownCommand q code tag payload =>
      cases hc
      have unnamed := hw p code tag payload rfl
      simp only [ownerCodes, List.mem_cons, List.not_mem_nil, or_false] at hcode
      rcases hcode with rfl | rfl | rfl | rfl <;> cases unnamed
    | _ => cases hc <;> exact absurd hcode (by dsimp only; decide)

end Sys2Proof.Machine

/-! ## PING, DEVICE_INFO and OPEN (O29, O26) -/

namespace Sys2Proof.Machine

/-! ### The byte of the ranks in use (R182) -/

/-- Four bits of a byte at their places are its four low bits, and the byte is below 16. -/
theorem byteOfNat_lowBits : ∀ a b c d : Bool,
    let byte := byteOfNat (bitAt a 0 + bitAt b 1 + bitAt c 2 + bitAt d 3)
    (byte.getLsbD 0 = a ∧ byte.getLsbD 1 = b ∧ byte.getLsbD 2 = c ∧ byte.getLsbD 3 = d) ∧ byte.toNat < 16 := by
  decide

theorem State.ranksInUse_lt (s : State) : (byteOfNat s.ranksInUse).toNat < 16 := (byteOfNat_lowBits _ _ _ _).2

theorem State.ranksInUse_getLsbD (s : State) (k : Fin 4) :
    (byteOfNat s.ranksInUse).getLsbD k.val = true ↔ ∃ q, (s.session q).map Session.rank = some k := by
  obtain ⟨⟨h0, h1, h2, h3⟩, -⟩ :=
    byteOfNat_lowBits (s.rankHeld 0) (s.rankHeld 1) (s.rankHeld 2) (s.rankHeld 3)
  rw [← s.rankHeld_iff k, Bool.eq_iff_iff.symm]
  match k with
  | 0 => exact h0
  | 1 => exact h1
  | 2 => exact h2
  | 3 => exact h3

/-! ### PING and DEVICE_INFO (R136, R141) -/

theorem pingServer_eq {s : State} {p : PortId} {ses : Session} (hs : s.session p = some ses) :
    pingServer p [] s =
      .ok ([byteOfNat p, byteOfNat ses.rank] ++ bytesOfNat 2 ses.idleLimit.toNat ++ bytesOfNat 2 ses.idleRemaining ++
             bytesOfNat 2 ses.mask.toNat ++
             [byteOfNat s.ranksInUse, byteOfFlag ses.reader.isSome, byteOfNat (s.claimsHeld p)], s) :=
  sessionRequest_of_some (len := 0) (payload := []) hs rfl

theorem deviceInfoServer_eq {s : State} {p : PortId} {ses : Session} (hs : s.session p = some ses) :
    deviceInfoServer p [] s = .ok (deviceInfoBytes, s) :=
  sessionRequest_of_some (len := 0) (payload := []) hs rfl

/-- The sixteen bytes of R182. -/
theorem deviceInfoBytes_eq : deviceInfoBytes = [0x19, 0x04, 1, 4, 6, 8, 8, 6, 24, 8, 47, 1, 0, 4, 48, 248] := by decide

/-- Settles O29: both requests answer from the state as the taken request leaves it, and give that state back. -/
theorem pingAndDeviceInfoReport : Obligations.PingAndDeviceInfoReport := by
  intro s p tag ses hs
  refine ⟨fun hn => ⟨_, rfl, byteOfNat s.ranksInUse, s.ranksInUse_getLsbD, s.ranksInUse_lt, ?_⟩,
    fun hn => ⟨_, rfl, ?_⟩⟩
  · exact onlyAnswered_of_ok hn (by decide) (pingServer_eq (s := s.taken p) hs)
  · rw [← deviceInfoBytes_eq]
    exact onlyAnswered_of_ok hn (by decide) (deviceInfoServer_eq (s := s.taken p) hs)

/-! ### OPEN (R133, R154) -/

/-- The session that an accepted OPEN creates. -/
def Session.opened (rank : Fin 4) (limit : BitVec 16) : Session :=
  { rank := rank, idleLimit := limit, elapsed := 0, mask := BitVec.allOnes 11, records := EventRecords.empty, reader := none }

theorem natOfBytes_pair (hi lo : Byte) : natOfBytes [hi, lo] = (hi ++ lo).toNat := by
  rw [BitVec.toNat_append, ← Nat.shiftLeft_add_eq_or_of_lt lo.isLt, Nat.shiftLeft_eq]
  simp [natOfBytes]

theorem State.rankHeld_iff_toNat (s : State) (rank : Fin 4) :
    s.rankHeld rank = true ↔ ∃ q, (s.session q).map (fun ses => ses.rank.val) = some rank.val := by
  rw [s.rankHeld_iff]
  refine exists_congr fun q => ?_
  cases s.session q <;> simp [Fin.ext_iff]

/-- OPEN with three payload bytes: its checks in order, then the new session (R133). -/
theorem openServer_eq (s : State) (p : PortId) (rank l1 l0 : Byte) :
    openServer p [rank, l1, l0] s =
      if 3 < rank.toNat then .error .outOfRange
      else if s.session p ≠ none then .error .haveSession
      else if ∃ q, (s.session q).map (fun ses => ses.rank.val) = some rank.toNat then .error .rankInUse
      else
        let t := s.setSession p (some (Session.opened (Fin.ofNat 4 rank.toNat) (l1 ++ l0)))
        .ok ([byteOfNat p.val, rank, l1, l0, byteOfNat t.ranksInUse], t) := by
  have first : byteAt [rank, l1, l0] 0 = rank := rfl
  have limit : BitVec.ofNat 16 (natAt [rank, l1, l0] 1 2) = l1 ++ l0 := by
    rw [show natAt [rank, l1, l0] 1 2 = natOfBytes [l1, l0] from rfl, natOfBytes_pair, BitVec.ofNat_toNat, BitVec.setWidth_eq]
  have limitBytes : bytesOfNat 2 (l1 ++ l0).toNat = [l1, l0] := natOfBytes_pair l1 l0 ▸ bytesOfNat_natOfBytes [l1, l0]
  have length : [rank, l1, l0].length = 3 := rfl
  rw [openServer, require_bind, if_neg (not_not.mpr length), idField_eq, first, ite_error_bind]
  refine ite_congr (propext Nat.succ_le_iff) (fun _ => rfl) fun hr => ?_
  have rankVal : (Fin.ofNat 4 rank.toNat).val = rank.toNat := Nat.mod_eq_of_lt (Nat.lt_succ_of_le (Nat.not_lt.mp hr))
  have rankByte : byteOfNat (Fin.ofNat 4 rank.toNat).val = rank := by
    rw [rankVal, byteOfNat, BitVec.ofNat_toNat, BitVec.setWidth_eq]
  have free : (!s.rankHeld (Fin.ofNat 4 rank.toNat)) =
      decide (¬∃ q, (s.session q).map (fun ses => ses.rank.val) = some rank.toNat) := by
    rw [Bool.eq_iff_iff, decide_eq_true_eq, Bool.not_eq_true', ← Bool.not_eq_true, s.rankHeld_iff_toNat, rankVal]
  rw [ok_bind, require_bind, free, require_bind, rankByte, limit]
  simp only [limitBytes, not_not]
  rfl

/-- Settles O26: the checks of OPEN, and the port of an accepted one given the fresh session. -/
theorem openCreatesASession : Obligations.OpenCreatesASession := by
  intro s p tag rank l1 l0 hn
  refine ⟨_, rfl, ?_⟩
  refine refused_ite hn (openServer_eq (s.taken p) p rank l1 l0) fun _ server => refused_ite hn server fun _ server =>
    refused_ite hn server fun _ server => ?_
  have accepted := answered_of_ok hn (by decide) server rfl rfl
  rw [executorTakes_of_ok hn server] at accepted ⊢
  exact ⟨⟨_, State.ranksInUse_getLsbD _, State.ranksInUse_lt _, accepted⟩, State.setSession_session_same _ p _,
    fun q hq => State.setSession_session_ne _ p _ hq, rfl⟩

end Sys2Proof.Machine

/-! ## The resource named by a request, and CLAIM (O31) -/

namespace Sys2Proof.Machine

/-! ### Resource names (R177) -/

section
variable {n : Nat} [NeZero n] {name : Fin n → Resource} {kind number : Byte}
  (named : ∀ k, (name k).nameBytes = [kind, byteOfNat k]) (rest : List Byte)

/-- The number byte of a resource of a kind with `n` members names it. -/
theorem map_idField_of_number (hn : n ≤ 256) {k : Fin n} (h : byteOfNat k = number) :
    Except.map name (idField n (kind :: number :: rest) 1) = .ok (name k) := by
  have value : number.toNat = k := h ▸ Nat.mod_eq_of_lt (k.isLt.trans_le hn)
  have field : idField n (kind :: number :: rest) 1 = _ := idField_eq n _ 1
  have byte : byteAt (kind :: number :: rest) 1 = number := rfl
  rw [field, byte, value, if_neg (Nat.not_le.mpr k.isLt), Fin.ofNat_val_eq_self]
  rfl

include named

/-- A number byte that names no resource of the kind is above its range. -/
theorem map_idField_of_no_name (h : ∀ r : Resource, r.nameBytes ≠ [kind, number]) :
    Except.map name (idField n (kind :: number :: rest) 1) = .error .outOfRange := by
  have above : n ≤ number.toNat := by
    by_contra inside
    refine h (name (Fin.ofNat n number.toNat)) ?_
    rw [named, Fin.val_ofNat, Nat.mod_eq_of_lt (Nat.not_le.mp inside), byteOfNat, BitVec.ofNat_toNat, BitVec.setWidth_eq]
  have field : idField n (kind :: number :: rest) 1 = _ := idField_eq n _ 1
  rw [field]
  exact congrArg (Except.map name) (if_pos above)

end

theorem Resource.mark_nameBytes (k : Fin 1) : Resource.mark.nameBytes = [4, byteOfNat k] := by
  rw [Subsingleton.elim k 0]
  rfl

/-- The two name bytes of a resource name it. -/
theorem resourceField_of_name {r : Resource} {kind number : Byte} (h : r.nameBytes = [kind, number]) (rest : List Byte) :
    resourceField (kind :: number :: rest) 0 = .ok r := by
  cases r <;> obtain ⟨rfl, hn⟩ := List.cons.inj h <;> obtain ⟨hn, -⟩ := List.cons.inj hn
  case axis n => exact map_idField_of_number rest (by decide) hn
  case channel n => exact map_idField_of_number rest (by decide) hn
  case entry n => exact map_idField_of_number rest (by decide) hn
  case gate n => exact map_idField_of_number rest (by decide) hn
  case mark => exact map_idField_of_number (name := fun _ : Fin 1 => .mark) (k := 0) rest (by decide) hn

/-- Two bytes that name no resource: the kind is undefined, or the number is above the range of the kind. -/
theorem resourceField_of_no_name {kind number : Byte} (h : ∀ r : Resource, r.nameBytes ≠ [kind, number]) (rest : List Byte) :
    resourceField (kind :: number :: rest) 0 = .error (if 4 < kind.toNat then .badValue else .outOfRange) := by
  have first : byteAt (kind :: number :: rest) 0 = kind := rfl
  unfold resourceField
  simp only [first]
  split
  · next hk => subst hk; exact map_idField_of_no_name (fun _ => rfl) rest h
  split
  · next hk => subst hk; exact map_idField_of_no_name (fun _ => rfl) rest h
  split
  · next hk => subst hk; exact map_idField_of_no_name (fun _ => rfl) rest h
  split
  · next hk => subst hk; exact map_idField_of_no_name (fun _ => rfl) rest h
  split
  · next hk => subst hk; exact map_idField_of_no_name Resource.mark_nameBytes rest h
  · next h0 h1 h2 h3 h4 =>
    have undefined : 4 < kind.toNat := by bv_omega
    rw [if_pos undefined]

/-- A request that reads a resource first is refused for a name that is no resource (R177, R178). -/
theorem refused_of_no_name {s : State} {p : PortId} {code tag kind number : Byte} {rest : List Byte} {serve : Server}
    {answer : Resource → Answer}
    (hn : s.nextRequest = some (p, { command := code, tag := tag, payload := kind :: number :: rest }))
    (he : serve p (kind :: number :: rest) (s.taken p) = resourceField (kind :: number :: rest) 0 >>= answer)
    (h : ∀ r : Resource, r.nameBytes ≠ [kind, number]) :
    let t := executorTakes p { command := code, tag := tag, payload := kind :: number :: rest } serve s
    if 4 < kind.toNat then s.refused p code tag .badValue t else s.refused p code tag .outOfRange t := by
  rw [resourceField_of_no_name h] at he
  dsimp only
  split
  · next undefined => exact refused_of_error hn (by rw [he, if_pos undefined]; rfl)
  · next defined => exact refused_of_error hn (by rw [he, if_neg defined]; rfl)

/-! ### CLAIM (R145, R146) -/

section
variable {s : State} {p : PortId} {ses : Session} (hs : s.session p = some ses) {kind number preempt : Byte}
include hs

theorem claimServer_resource :
    ∃ answer : Resource → Answer,
      claimServer p [kind, number, preempt] s = resourceField [kind, number, preempt] 0 >>= answer :=
  ⟨_, sessionRequest_of_some (len := 3) hs rfl⟩

/-- CLAIM of a resource: its preempt byte, then the outcome by the owner (R145, R146). -/
theorem claimServer_outcome {r : Resource} (hr : r.nameBytes = [kind, number]) :
    ∃ outcome : Answer,
      claimServer p [kind, number, preempt] s = (if 1 < preempt.toNat then .error .badValue else outcome) ∧
        (s.owner r = none → outcome = .ok ([1, 0], s.setOwner r (some p))) ∧
        (s.owner r = some p → outcome = .ok ([2, 0], s)) ∧
        ∀ q other, s.owner r = some q → q ≠ p → s.session q = some other →
          outcome =
            if preempt = 1 ∧ other.rank < ses.rank then
              .ok ([3, s.ownerByte (some q)], (s.setOwner r (some p)).raiseTo q (.claimLost r))
            else .error .held := by
  rw [claimServer, sessionRequest_of_some (len := 3) hs rfl, claimBody, resourceField_of_name hr, ok_bind, flagField_eq,
    ite_error_bind, ok_bind]
  refine ⟨_, rfl, fun ho => ?_, fun ho => ?_, fun q other ho hq hother => ?_⟩
  · rw [ho]
    rfl
  · simp only [ho, if_true]
    rfl
  · simp only [ho, if_neg hq, hother, decide_eq_true_eq]
    rfl

end

theorem State.ownerByte_of_session {s : State} {q : PortId} {ses : Session} (hs : s.session q = some ses) :
    s.ownerByte (some q) = byteOfNat (128 + 4 * q.val + ses.rank.val) := by
  simp only [State.ownerByte, hs]

theorem State.raiseTo_of_session {s : State} {q : PortId} {ses : Session} (hs : s.session q = some ses) (ev : Event) :
    s.raiseTo q ev = s.setSession q (some (ses.filed ev)) := by
  simp only [State.raiseTo, hs, Session.filed]

/-- A deposit keeps what claims, sessions and queues have been the only ones to change. -/
theorem State.deposit_claimed {s t : State} (p : PortId) (response : Response)
    (h : t = { s with claims := t.claims, sessions := t.sessions, ports := t.ports, executor := t.executor }) :
    let u := t.deposit p response
    u = { s with claims := u.claims, sessions := u.sessions, ports := u.ports, executor := u.executor } := by
  rw [h]
  rfl

/-- Settles O31: the outcomes of CLAIM by the owner that the taken request finds. -/
theorem claimGrantsPreemptsOrHolds : Obligations.ClaimGrantsPreemptsOrHolds := by
  intro s p tag kind number preempt ses _ hn hs
  refine ⟨_, rfl, fun unnamed => ?_, fun r hr => ?_⟩
  · obtain ⟨answer, server⟩ := claimServer_resource (s := s.taken p) hs (kind := kind) (number := number) (preempt := preempt)
    exact refused_of_no_name hn server unnamed
  obtain ⟨outcome, server, free, own, foreign⟩ := claimServer_outcome (s := s.taken p) hs hr
  refine refused_ite hn server fun _ server => ?_
  cases ho : s.owner r with
  | none =>
    rw [free ho] at server
    refine ⟨answered_of_ok hn (by decide) server rfl rfl, ?_⟩
    rw [executorTakes_of_ok hn server]
    exact ⟨State.setOwner_owner_same _ r _, fun k hk => State.setOwner_owner_ne _ r _ hk, rfl⟩
  | some q =>
    dsimp only
    split
    · next hq =>
      rw [own (ho.trans (congrArg some hq))] at server
      exact onlyAnswered_of_ok hn (by decide) server
    · next hq =>
      intro other hother
      rw [foreign q other ho hq hother] at server
      split
      · next lower =>
        rw [if_pos lower, State.ownerByte_of_session (s := s.taken p) hother,
          State.raiseTo_of_session (s := (s.taken p).setOwner r (some p)) hother] at server
        refine ⟨answered_of_ok hn (by decide) server rfl rfl, ?_⟩
        rw [executorTakes_of_ok hn server]
        exact ⟨State.setOwner_owner_same _ r _, fun k hk => State.setOwner_owner_ne _ r _ hk,
          State.setSession_session_same _ q _, fun k hk => State.setSession_session_ne _ q _ hk, State.deposit_claimed p _ rfl⟩
      · next held =>
        rw [if_neg held] at server
        exact refused_of_error hn server

end Sys2Proof.Machine

/-! ## Resources given up (R138, R147) -/

namespace Sys2Proof.Machine

/-! ### One resource given up -/

theorem State.giveUp_channel (s : State) (r : Resource) (c : ChannelId) :
    (s.giveUp r).channel c = if Resource.channel c = r then (s.channel c).toDisarmed else s.channel c := by
  cases r with
  | channel k =>
    by_cases h : c = k
    · subst h
      rw [if_pos rfl]
      exact State.setChannel_channel_same _ c _
    · rw [if_neg (mt Resource.channel.inj h)]
      exact State.setChannel_channel_ne _ k _ h
  | entry e =>
    have only := (s.setOwner (.entry e) none).replaceEntry_only e (s.entry e).parked
    have channels := congrArg State.channels only
    exact congrArg (fun b => Bank.read b c) channels
  | axis _ => rfl
  | gate _ => rfl
  | mark => rfl

theorem State.giveUp_entry (s : State) (r : Resource) (e : EntryId) :
    (s.giveUp r).entry e = if Resource.entry e = r then { s.entry e with enabled := false, met := false } else s.entry e := by
  cases r with
  | entry k =>
    refine (State.replaceEntry_entry (s.setOwner _ none) k e _).trans ?_
    by_cases h : e = k
    · subst h
      rw [if_pos rfl, if_pos rfl]
      rfl
    · rw [if_neg h, if_neg (mt Resource.entry.inj h)]
      rfl
  | axis _ => rfl
  | channel _ => rfl
  | gate _ => rfl
  | mark => rfl

theorem State.giveUp_time (s : State) (r : Resource) :
    (s.giveUp r).time = if Resource.mark = r then { s.time with align := .idle, preload := 0 } else s.time := by
  cases r with
  | entry e =>
    have only := (s.setOwner (.entry e) none).replaceEntry_only e (s.entry e).parked
    have time := congrArg State.time only
    exact time
  | axis _ => rfl
  | channel _ => rfl
  | gate _ => rfl
  | mark => rfl

/-- A gate given up is parked; the others show what their modes give them (R107, R114). -/
theorem State.giveUp_gate {s : State} (h : s.GatesFollow s) (r : Resource) (g : GateId) :
    (s.giveUp r).gate g =
      if Resource.gate g = r then
        { s.gate g with mode := .manual, manual := .inactive, remaining := 0, output := .inactive, endDue := false }
      else { s.gate g with output := (s.giveUp r).gateLevel (s.gate g) } := by
  cases r with
  | gate k =>
    by_cases hg : g = k
    · subst hg
      rw [if_pos rfl]
      exact State.setGate_gate_same _ g _
    · rw [if_neg (mt Resource.gate.inj hg)]
      exact (State.setGate_gate_ne _ k _ hg).trans (h g)
  | entry e =>
    have released : s.GatesFollow (s.setOwner (.entry e) none) := h
    exact released.replaceEntry e _ g
  | axis _ => exact h g
  | channel _ => exact h g
  | mark => exact h g

theorem State.giveUp_parkedFrom {s : State} (h : s.GatesFollow s) (r : Resource) :
    s.parkedFrom (fun k => decide (k = r)) (s.giveUp r) := by
  simp only [State.parkedFrom, decide_eq_true_eq]
  exact ⟨s.giveUp_owner r, s.giveUp_channel r, s.giveUp_entry r, State.giveUp_gate h r, s.giveUp_time r⟩

/-! ### Resources given up in a row -/

/-- With nothing parked the gates show what their modes give them. -/
theorem State.parkedFrom_self {s : State} (h : s.GatesFollow s) : s.parkedFrom (fun _ => false) s :=
  ⟨fun _ => rfl, fun _ => rfl, fun _ => rfl, h, rfl⟩

/-- After parks the gates show what their modes give them (R106, R107). -/
theorem State.parkedFrom.gatesFollow {s t : State} {lost : Resource → Bool} (h : s.parkedFrom lost t) : t.GatesFollow t := by
  obtain ⟨-, -, -, gates, -⟩ := h
  intro g
  rw [gates g]
  split <;> rfl

theorem State.parkedFrom.trans {s t u : State} {first last : Resource → Bool} (h : s.parkedFrom first t)
    (k : t.parkedFrom last u) : s.parkedFrom (fun r => first r || last r) u := by
  obtain ⟨owners, channels, entries, gates, time⟩ := h
  obtain ⟨owners', channels', entries', gates', time'⟩ := k
  refine ⟨fun r => ?_, fun c => ?_, fun e => ?_, fun g => ?_, ?_⟩ <;> beta_reduce
  · rw [owners', owners]
    cases first r <;> cases last r <;> rfl
  · rw [channels', channels]
    cases first (.channel c) <;> cases last (.channel c) <;> rfl
  · rw [entries', entries]
    cases first (.entry e) <;> cases last (.entry e) <;> rfl
  · rw [gates', gates]
    cases first (.gate g) <;> cases last (.gate g) <;> rfl
  · rw [time', time]
    cases first .mark <;> cases last .mark <;> rfl

theorem State.giveUpOwned_parkedFrom {s : State} (h : s.GatesFollow s) (p : PortId) (r : Resource) :
    s.parkedFrom (fun k => decide (k = r ∧ s.owner k = some p)) (State.giveUpOwned p s r) := by
  unfold State.giveUpOwned State.owns
  by_cases ho : s.owner r = some p
  · have lost : (fun k => decide (k = r ∧ s.owner k = some p)) = fun k => decide (k = r) :=
      funext fun k => decide_eq_decide.mpr (and_iff_left_of_imp fun hk => hk ▸ ho)
    rw [if_pos (decide_eq_true ho), lost]
    exact State.giveUp_parkedFrom h r
  · have lost : (fun k => decide (k = r ∧ s.owner k = some p)) = fun _ => false :=
      funext fun k => decide_eq_false fun ⟨hk, hp⟩ => ho (hk ▸ hp)
    rw [if_neg (mt of_decide_eq_true ho), lost]
    exact State.parkedFrom_self h

theorem State.foldl_giveUpOwned_parkedFrom (p : PortId) (l : List Resource) {s : State} (h : s.GatesFollow s) :
    s.parkedFrom (fun r => decide (r ∈ l ∧ s.owner r = some p)) (l.foldl (State.giveUpOwned p) s) := by
  induction l generalizing s with
  | nil => simpa using State.parkedFrom_self h
  | cons k l ih =>
    have head := State.giveUpOwned_parkedFrom h p k
    have all := head.trans (ih head.gatesFollow)
    have lost : ∀ r, (decide (r = k ∧ s.owner r = some p) ||
        decide (r ∈ l ∧ (State.giveUpOwned p s k).owner r = some p)) = decide (r ∈ k :: l ∧ s.owner r = some p) := by
      intro r
      obtain ⟨owners, -⟩ := head
      rw [owners]
      by_cases ho : s.owner r = some p
      · by_cases hk : r = k
        · subst hk
          simp [ho]
        · simp [hk, ho]
      · simp [ho]
    exact (funext lost) ▸ all

/-- A close gives up the resources of the session, and no others (R138). -/
theorem State.closeSession_parkedFrom {s : State} (h : s.gatesOk) (p : PortId) :
    s.parkedFrom (fun r => decide (s.owner r = some p)) (s.closeSession p) := by
  have given := State.foldl_giveUpOwned_parkedFrom p allResources (State.gatesFollow_self h)
  have lost : (fun r => decide (r ∈ allResources ∧ s.owner r = some p)) = fun r => decide (s.owner r = some p) :=
    funext fun r => decide_eq_decide.mpr (and_iff_right (mem_allResources r))
  rw [lost] at given
  rw [s.closeSession_eq]
  generalize allResources.foldl (State.giveUpOwned p) s = t at given ⊢
  exact given

end Sys2Proof.Machine

/-! ## CLOSE, RELEASE and WHO_OWNS (O27, O32) -/

namespace Sys2Proof.Machine

theorem OnlyPark.ports {s t : State} (h : OnlyPark s t) : t.ports = s.ports := by rw [h]

theorem OnlyPark.executor {s t : State} (h : OnlyPark s t) : t.executor = s.executor := by rw [h]

/-! ### CLOSE (R137) -/

/-- A close changes the sessions, the claims and what parks change. -/
theorem State.closeSession_only (s : State) (p : PortId) :
    let t := s.closeSession p
    t = { s with sessions := t.sessions, claims := t.claims, channels := t.channels, entries := t.entries, gates := t.gates,
                 time := t.time } := by
  have only := s.closeSession_fold_only p
  rw [s.closeSession_eq]
  generalize allResources.foldl (State.giveUpOwned p) s = t at only ⊢
  unfold OnlyPark at only
  rw [only]
  rfl

theorem State.closeSession_executor (s : State) (p : PortId) : (s.closeSession p).executor = s.executor := by
  rw [s.closeSession_eq, State.setSession_executor, s.closeSession_fold_only p]

theorem closeServer_eq {s : State} {p : PortId} {ses : Session} (hs : s.session p = some ses) :
    closeServer p [] s = .ok ([], s.closeSession p) := sessionRequest_of_some (len := 0) (payload := []) hs rfl

/-- Settles O27: the close of the session that the taken CLOSE finds, answered on the port's kept queues. -/
theorem closeEndsTheSessionAndParks : Obligations.CloseEndsTheSessionAndParks := by
  intro s p tag hgates hn hne
  obtain ⟨ses, hs⟩ := Option.ne_none_iff_exists'.mp hne
  have server := closeServer_eq (s := s.taken p) hs
  have sessions := (s.taken p).closeSession_session p
  have parked := State.closeSession_parkedFrom (s := s.taken p) hgates p
  have only := (s.taken p).closeSession_only p
  have answered := answered_of_ok hn (by decide) server (State.closeSession_ports _ p) (State.closeSession_executor _ p)
  refine ⟨_, rfl, answered, ?_⟩
  rw [executorTakes_of_ok hn server]
  generalize (s.taken p).closeSession p = t at sessions parked only
  refine ⟨(sessions p).trans (if_pos rfl), fun q hq => (sessions q).trans (if_neg hq), parked, ?_⟩
  dsimp only at only
  rw [only]
  rfl

/-! ### RELEASE (R147) -/

theorem releaseServer_resource {s : State} {p : PortId} {ses : Session} (hs : s.session p = some ses) (kind number : Byte) :
    ∃ answer : Resource → Answer, releaseServer p [kind, number] s = resourceField [kind, number] 0 >>= answer :=
  ⟨_, sessionRequest_of_some (len := 2) hs rfl⟩

theorem releaseServer_eq {s : State} {p : PortId} {ses : Session} (hs : s.session p = some ses) {kind number : Byte}
    {r : Resource} (hr : r.nameBytes = [kind, number]) :
    releaseServer p [kind, number] s = if s.owner r ≠ some p then .error .notOwner else .ok ([], s.giveUp r) := by
  rw [releaseServer, sessionRequest_of_some (len := 2) hs rfl, releaseBody, resourceField_of_name hr, ok_bind, requireOwner_bind]
  rfl

/-! ### WHO_OWNS (R148) -/

theorem whoOwnsServer_all {s : State} {p : PortId} {ses : Session} (hs : s.session p = some ses) {kind : Byte}
    (hk : kind = 0x0F) (number : Byte) :
    whoOwnsServer p [kind, number] s = .ok (allResources.map (fun r => s.ownerByte (s.owner r)), s) := by
  rw [whoOwnsServer, sessionRequest_of_some (len := 2) hs rfl]
  exact if_pos hk

theorem whoOwnsServer_resource {s : State} {p : PortId} {ses : Session} (hs : s.session p = some ses) {kind : Byte}
    (hk : kind ≠ 0x0F) (number : Byte) :
    whoOwnsServer p [kind, number] s =
      resourceField [kind, number] 0 >>= fun r => .ok (r.nameBytes ++ [s.ownerByte (s.owner r)], s) := by
  rw [whoOwnsServer, sessionRequest_of_some (len := 2) hs rfl]
  exact if_neg hk

/-- Settles O32: both requests read the resource first; RELEASE gives up the one it names, WHO_OWNS reports. -/
theorem releaseParksAndWhoOwnsReports : Obligations.ReleaseParksAndWhoOwnsReports := by
  refine ⟨fun s p tag kind number hgates hn hne => ?_, fun s p tag kind number hn hne => ?_, fun s => ⟨rfl, ?_⟩⟩
  · obtain ⟨ses, hs⟩ := Option.ne_none_iff_exists'.mp hne
    refine ⟨_, rfl, fun unnamed => ?_, fun r hr => ?_⟩
    · obtain ⟨answer, server⟩ := releaseServer_resource (s := s.taken p) hs kind number
      exact refused_of_no_name hn server unnamed
    refine refused_ite hn (releaseServer_eq (s := s.taken p) hs hr) fun _ server => ?_
    have parked := State.giveUp_parkedFrom (State.gatesFollow_self (s := s.taken p) hgates) r
    have only := (s.taken p).giveUp_only r
    have answered := answered_of_ok hn (by decide) server only.ports only.executor
    refine ⟨answered, ?_⟩
    rw [executorTakes_of_ok hn server]
    generalize (s.taken p).giveUp r = t at parked only
    refine ⟨parked, ?_⟩
    unfold OnlyPark at only
    rw [only]
    rfl
  · obtain ⟨ses, hs⟩ := Option.ne_none_iff_exists'.mp hne
    refine ⟨_, rfl, ?_⟩
    split
    · next hk => exact onlyAnswered_of_ok hn (by decide) (whoOwnsServer_all (s := s.taken p) hs hk number)
    · next hk =>
      have server := whoOwnsServer_resource (s := s.taken p) hs hk number
      refine ⟨refused_of_no_name hn server, fun r hr => ?_⟩
      rw [resourceField_of_name hr, ok_bind, hr] at server
      exact onlyAnswered_of_ok hn (by decide) server
  · exact fun q ses => State.ownerByte_of_session

end Sys2Proof.Machine

/-! ## SESSION_EXPIRY (O28) -/

namespace Sys2Proof.Machine

/-! ### A transaction whose response is discarded (R170) -/

theorem ReceiveState.cutChosen_inTransaction (begun : Nat) (tr : Transaction) :
    (ReceiveState.inTransaction tr).cutChosen begun =
      .inTransaction
        { tr with chosen := none, gone := (tr.chosen.map (fun r => (r, if tr.shown then begun else 0))).or tr.gone } := by
  obtain ⟨status, chosen, shown, incoming, gone⟩ := tr
  cases chosen <;> rfl

/-- The discard of the queues of a port cuts its chosen response, unless all its responses are kept. -/
theorem Port.discardQueues_receive {q : Port} {kept begun : Nat} {allKept : Prop} [Decidable allKept]
    (h : q.responses.length ≤ kept ↔ allKept) :
    (q.discardQueues kept begun).receive =
      match q.receive with
      | .inTransaction tr =>
        if allKept then .inTransaction tr
        else
          .inTransaction
            { tr with chosen := none, gone := (tr.chosen.map (fun r => (r, if tr.shown then begun else 0))).or tr.gone }
      | other => other := by
  unfold Port.discardQueues
  dsimp only
  cases q.receive with
  | blocked => exact ite_self _
  | idle => exact ite_self _
  | inTransaction tr =>
    rw [ReceiveState.cutChosen_inTransaction]
    dsimp only
    by_cases hk : allKept
    · rw [if_pos hk, if_neg (Nat.not_lt.mpr (h.mpr hk))]
    · rw [if_neg hk, if_pos (Nat.not_le.mp (mt h.mp hk))]

/-- Of a cut response the bytes already begun are completed, and filler follows (R170). -/
theorem Transaction.outByte_of_cut {tr : Transaction} (hc : tr.chosen = none) {r : Response} {begun : Nat}
    (hg : tr.gone = some (r, begun)) (k : Nat) : tr.outByte (k + 1) = if k < begun then r.bytes.getD k 0 else 0 := by
  have sent : tr.sent = r.bytes.take begun := by rw [Transaction.sent, hg]
  rw [Transaction.outByte, if_neg k.succ_ne_zero, hc, sent]
  dsimp only
  rw [Nat.add_sub_cancel, List.getD_eq_getElem?_getD, List.getElem?_take]
  split
  · rw [List.getD_eq_getElem?_getD]
    rfl
  · rfl

/-! ### The expiry (R135, R139) -/

theorem State.expiryDue_of {s : State} {p : PortId} {ses : Session} (hs : s.session p = some ses) (hl : ses.idleLimit ≠ 0)
    (he : ses.idleLimit.toNat * 10000 ≤ ses.elapsed) : s.expiryDue p = true := by
  rw [State.expiryDue_eq, hs]
  exact decide_eq_true ⟨hl, he⟩

theorem State.takeExpiry_of_barred {s : State} {p : PortId} (h : s.expiryBarred p = true) : s.takeExpiry p = s := by
  simp [State.takeExpiry, h]

theorem State.closeSession_discards (s : State) (p : PortId) : (s.closeSession p).discards = s.discards := by
  rw [s.closeSession_eq, State.setSession_discards, s.closeSession_fold_only p]

/-- The port of an expired session: its queues discarded, EXPIRED set (R139). -/
def Port.expiredAt (q : Port) (begun : Nat) : Port := { q.discardQueues 0 begun with expired := true }

theorem State.expire_port (s : State) (p q : PortId) :
    (s.expire p).port q = if q = p then (s.port p).expiredAt (Config.begunBytes s.discards) else s.port q := by
  have port : ∀ k, (s.closeSession p).port k = s.port k := fun k => by
    rw [State.port, s.closeSession_ports, State.port]
  have begun := s.closeSession_discards p
  unfold State.expire
  generalize s.closeSession p = t at port begun
  dsimp only
  rw [State.setPort_port, State.discardQueues_port, State.discardQueues_port, if_pos rfl, port, port, begun]
  split
  · rfl
  · rfl

theorem State.expire_only (s : State) (p : PortId) :
    s.expire p = { s.closeSession p with ports := (s.expire p).ports, discards := s.discards + 1 } := by
  have begun := s.closeSession_discards p
  unfold State.expire
  generalize s.closeSession p = t at begun
  rw [← begun]
  rfl

theorem State.expire_session (s : State) (p q : PortId) :
    (s.expire p).session q = if q = p then none else s.session q := by
  have closed := s.closeSession_session p q
  rw [s.expire_only p]
  generalize s.closeSession p = t, (s.expire p).ports = ports at closed
  exact closed

theorem State.expire_parkedFrom {s : State} (h : s.gatesOk) (p : PortId) :
    s.parkedFrom (fun r => decide (s.owner r = some p)) (s.expire p) := by
  have parked := State.closeSession_parkedFrom h p
  rw [s.expire_only p]
  generalize s.closeSession p = t, (s.expire p).ports = ports at parked
  exact parked

/-- What of a cut response goes on: the bytes begun, once the status byte is out, then filler (R170, log entry 26). -/
theorem Port.expiredAt_outByte {q : Port} {tr : Transaction} {r : Response} (hq : q.receive = .inTransaction tr)
    (hr : tr.chosen = some r) (hne : q.responses ≠ []) (begun k : Nat) :
    (q.expiredAt begun).outByte (k + 1) = some (if tr.shown = true ∧ k < begun then r.bytes.getD k 0 else 0) := by
  have cut : (q.expiredAt begun).receive = _ := Port.discardQueues_receive (allKept := q.responses = []) (by simp)
  rw [hq] at cut
  dsimp only at cut
  rw [if_neg hne, hr] at cut
  rw [Port.outByte, cut]
  refine congrArg some ((Transaction.outByte_of_cut rfl rfl k).trans ?_)
  by_cases hs : tr.shown = true <;> simp [hs]

/-- Settles O28: an expiry that is due and not barred is the close of the session with its queues discarded. -/
theorem expiryClosesAndDiscards : Obligations.ExpiryClosesAndDiscards := by
  intro s p hgates
  refine ⟨_, rfl, fun h => State.takeExpiry_of_not_due ((s.expiryDue_eq_false_iff p).mpr h), State.expiryBarred_of,
    State.takeExpiry_of_barred, fun ses hs hl he hb => ?_⟩
  rw [State.takeExpiry_of_due (State.expiryDue_of hs hl he) hb]
  have port := (s.expire_port p p).trans (if_pos rfl)
  refine ⟨rfl, s.expire_session_same p, fun q hq => ?_, State.expire_parkedFrom hgates p, by rw [port]; rfl,
    by rw [port]; exact List.drop_length, by rw [port]; rfl, by rw [port]; rfl, by rw [port]; rfl, ?_, fun tr r k htr hr hne => ?_,
    fun q hq => (s.expire_port p q).trans (if_neg hq), ?_⟩
  · exact (s.expire_session p q).trans (if_neg hq)
  · rw [port]
    exact Port.discardQueues_receive (by simp)
  · rw [port]
    exact Port.expiredAt_outByte htr hr hne _ k
  · have only := s.closeSession_only p
    dsimp only at only
    rw [s.expire_only p, only]

end Sys2Proof.Machine

/-! ## DEVICE_RESET (O30) -/

namespace Sys2Proof.Machine

/-! ### Every session closed (R142, step 3) -/

/-- From `s` to `t` nothing but the sessions, the claims and what parks change has changed. -/
def OnlyClose (s t : State) : Prop :=
  t = { s with sessions := t.sessions, claims := t.claims, channels := t.channels, entries := t.entries, gates := t.gates,
               time := t.time }

theorem OnlyClose.refl (s : State) : OnlyClose s s := rfl

theorem OnlyClose.trans (s t u : State) (h : OnlyClose s t) (k : OnlyClose t u) : OnlyClose s u := by
  unfold OnlyClose at *
  exact k.trans (by rw [h])

theorem State.closeAll_only (s : State) : OnlyClose s s.closeAll := by
  refine foldl_reaches OnlyClose OnlyClose.refl OnlyClose.trans _ (fun t p => ?_) allPorts s
  split
  · exact t.closeSession_only p
  · exact OnlyClose.refl t

/-- The timebase with its alignment canceled (R130). -/
def Timebase.unaligned (t : Timebase) : Timebase := { t with align := .idle, preload := 0 }

theorem State.giveUpOwned_unaligned (p : PortId) (s : State) (r : Resource) :
    (State.giveUpOwned p s r).time.unaligned = s.time.unaligned := by
  unfold State.giveUpOwned
  split
  · rw [State.giveUp_time]
    split <;> rfl
  · rfl

/-- Closes leave the timebase but for its alignment (R130). -/
theorem State.closeAll_unaligned (s : State) : s.closeAll.time.unaligned = s.time.unaligned := by
  refine foldl_keeps (fun t : State => t.time.unaligned) _ (fun t p => ?_) allPorts s
  split
  · rw [State.closeSession_eq, State.setSession_time]
    exact foldl_keeps (fun t : State => t.time.unaligned) _ (State.giveUpOwned_unaligned p) allResources t
  · rfl

/-- With every session closed no resource has an owner (R138). -/
theorem State.closeAll_owner {s : State} (h : s.ownersOpen) (r : Resource) : s.closeAll.owner r = none := by
  cases ho : s.closeAll.owner r with
  | none => rfl
  | some p =>
    have isOpen := s.closeAll_keepsSessions.owners h r p ho
    rw [State.closeAll_session] at isOpen
    cases isOpen

/-! ### The taking (R142) -/

theorem State.allReachLog_eq (s : State) :
    s.allReachLog = s.underway.foldl (fun t c => (t.handOver c).1) { s with underway := [] } := rfl

theorem deviceResetServer_eq {s : State} {p : PortId} {ses : Session} (hs : s.session p = some ses) :
    deviceResetServer p [] s =
      if ses.rank ≠ 3 then .error .notPermitted
      else .ok (s.stamp.bytes ++ bytesOfNat 4 s.log.head.toNat, s.closeAll.resetBlocks) := by
  rw [deviceResetServer, sessionRequest_of_some (len := 0) (payload := []) hs rfl, deviceResetBody, require_bind]
  rfl

theorem State.acceptsReset_eq {s : State} {p : PortId} {ses : Session} (hs : s.session p = some ses) (tag : Byte) :
    s.acceptsReset p { command := codeDeviceReset, tag := tag, payload := [] } = decide (ses.rank = 3) := by
  simp [State.acceptsReset, hs]

/-- The response of a DEVICE_RESET that finds state `s` (R142, R182). -/
def State.resetResponse (s : State) (tag : Byte) : Response :=
  { command := codeDeviceReset, tag := tag, result := .ok, payload := s.stamp.bytes ++ bytesOfNat 4 s.log.head.toNat }

section
variable {s : State} {p : PortId} {tag : Byte} {ses : Session} (hs : s.session p = some ses)
include hs

theorem State.takeReset_of_lower (hr : ses.rank ≠ 3) :
    s.takeReset p { command := codeDeviceReset, tag := tag, payload := [] } =
      executorTakes p { command := codeDeviceReset, tag := tag, payload := [] } deviceResetServer s := by
  simp [State.takeReset, State.acceptsReset_eq hs, hr]

theorem State.takeReset_of_accepted (hr : ses.rank = 3)
    (hn : s.nextRequest = some (p, { command := codeDeviceReset, tag := tag, payload := [] })) :
    s.takeReset p { command := codeDeviceReset, tag := tag, payload := [] } =
      let u := s.allReachLog.taken p
      (u.closeAll.resetBlocks.deposit p (u.resetResponse tag)).discardAll p := by
  have accepted : s.acceptsReset p { command := codeDeviceReset, tag := tag, payload := [] } = true := by
    rw [State.acceptsReset_eq hs, decide_eq_true hr]
  have ranks := s.allReachLog_ranks p
  rw [hs] at ranks
  obtain ⟨found, hfound, hrank⟩ := Option.map_eq_some_iff.mp ranks
  have server := deviceResetServer_eq (s := s.allReachLog.taken p) hfound
  rw [if_neg (not_not.mpr (hrank.trans hr))] at server
  rw [State.takeReset, if_pos ⟨hn, accepted⟩, executorTakes_of_ok (s.allReachLog_nextRequest.trans hn) server]
  rfl

end

/-! ### The ports (R142, steps 1 and 2) -/

/-- A port after the discard of all queues, in which one response has just been deposited on the port of the taken request. -/
theorem State.discardAll_deposit_port {s t : State} {p : PortId} (r : Response) (hp : t.ports = (s.taken p).ports) (q : PortId) :
    ((t.deposit p r).discardAll p).port q =
      { (s.port q).discardQueues 0 (Config.begunBytes (t.discards + q.val)) with responses := if q = p then [r] else [] } := by
  have port : t.port q = (s.taken p).port q := by rw [State.port, hp, State.port]
  have discards : (t.deposit p r).discards = t.discards := rfl
  rw [State.discardAll_port, discards]
  by_cases hq : q = p
  · subst hq
    rw [State.deposit_port_same, port, State.taken_port_same]
    simp [Port.discardQueues, List.length_pos_iff]
  · rw [State.deposit_port_ne _ r hq, port, State.taken_port_ne s hq]
    simp [Port.discardQueues, hq]

/-! ### The obligation -/

/-- The captures under way at the log, the request taken, every session closed: the state whose blocks a DEVICE_RESET sets. -/
def State.resetting (s : State) (p : PortId) : State := (s.allReachLog.taken p).closeAll

theorem State.resetting_owner {s : State} (h : s.ownersOpen) (p : PortId) (r : Resource) : (s.resetting p).owner r = none := by
  have openOwners : (s.allReachLog.taken p).ownersOpen := (s.arrive_keepsTenures s.underway []).keepsSessions.owners h
  exact State.closeAll_owner openOwners r

theorem State.allReachLog_taken_time (s : State) (p : PortId) : (s.allReachLog.taken p).time = s.time := by
  change s.allReachLog.time = s.time
  rw [s.allReachLog_only]

theorem State.resetting_unaligned (s : State) (p : PortId) : (s.resetting p).time.unaligned = s.time.unaligned :=
  (State.closeAll_unaligned _).trans (congrArg Timebase.unaligned (s.allReachLog_taken_time p))

/-- What of that state is neither of the sessions nor of the blocks that closes park. -/
theorem State.resetting_others (s : State) (p : PortId) :
    let c := s.resetting p
    (c.ports = (s.taken p).ports ∧ c.executor = { last := p, took := true } ∧ c.discards = s.discards ∧
        c.pending = s.pending) ∧
      (c.log = s.allReachLog.log ∧ c.underway = []) ∧ c.mark = s.mark ∧ c.axes = s.axes ∧ c.lines = s.lines := by
  have field := s.allReachLog_only
  have arrived := s.allReachLog_underway
  unfold State.resetting
  generalize s.allReachLog = u at field arrived
  have closed := (u.taken p).closeAll_only
  generalize (u.taken p).closeAll = c at closed
  unfold OnlyFiring at field
  unfold OnlyClose at closed
  rw [arrived] at field
  dsimp only
  rw [closed, field]
  exact ⟨⟨rfl, rfl, rfl, rfl⟩, ⟨rfl, rfl⟩, rfl, rfl, rfl⟩

theorem State.resetResponse_eq (s : State) (p : PortId) (tag : Byte) :
    (s.allReachLog.taken p).resetResponse tag =
      { command := codeDeviceReset, tag := tag, result := .ok,
        payload := bytesOfNat 6 s.time.tick.toNat ++ [s.time.epoch] ++ bytesOfNat 4 s.allReachLog.log.head.toNat } := by
  rw [State.resetResponse, State.stamp, s.allReachLog_taken_time]
  rfl

/-- Settles O30: the response is deposited, every session closed, the blocks set to their initial values, and the queues
discarded. -/
theorem deviceResetReturnsTheBlocks : Obligations.DeviceResetReturnsTheBlocks := by
  intro s p tag ses howners hn hs
  refine ⟨_, rfl, ?_⟩
  split
  · next hr =>
    rw [State.takeReset_of_lower hs hr]
    exact refused_of_error hn ((deviceResetServer_eq (s := s.taken p) hs).trans (if_pos hr))
  · next hr =>
    have sessions : ∀ q, (s.resetting p).session q = none := State.closeAll_session _
    have owners := State.resetting_owner howners p
    have time := s.resetting_unaligned p
    obtain ⟨⟨ports, executor, discards, pending⟩, ⟨log, underway⟩, mark, axes, lines⟩ := s.resetting_others p
    rw [State.takeReset_of_accepted hs (not_not.mp hr) hn]
    dsimp only
    rw [← State.allReachLog_eq, State.resetResponse_eq, ← State.resetting]
    generalize s.resetting p = c at *
    refine ⟨sessions, owners, fun q => ?_, executor, ?_, time, ?_, fun n => ?_, fun l => ?_, fun k => ?_, fun e => ?_,
      fun g => ?_, underway, ?_, pending⟩
    · have begun : c.resetBlocks.discards = s.discards := discards
      rw [State.discardAll_deposit_port (t := c.resetBlocks) _ ports q, begun]
      exact ⟨rfl, rfl, rfl, rfl, rfl, Port.discardQueues_receive (by simp)⟩
    · exact congrArg CaptureLog.deviceReset log
    · exact congrArg MarkUnit.deviceReset mark
    · exact (Bank.read_mapAll _ _ n).trans (congrArg (fun b => (Bank.read b n).deviceReset) axes)
    · exact (Bank.read_mapAll _ _ l).trans (congrArg (fun b => (Bank.read b l).deviceReset) lines)
    · exact (Bank.read_replicate _ k).trans (State.reset_channel k).symm
    · exact (Bank.read_replicate _ e).trans (State.reset_entry e).symm
    · exact (Bank.read_replicate _ g).trans (State.reset_gate g).symm
    · exact congrArg (· + 4) discards

end Sys2Proof.Machine

/-! ## Event records: filed and acknowledged (R151, R153, R156) -/

namespace Sys2Proof.Machine

/-! ### The parts of a record -/

/-- A record of a kind that names resources is as R151 states: a count of at most 255, and an empty set where it is 0. -/
structure SetRecord.Ok {n : Nat} (r : SetRecord n) : Prop where
  count_le : r.count ≤ Config.countLimit
  members : r.count = 0 → r.members = 0

/-- The BURST_END record is as R151 states, with its two sets. -/
structure BurstRecord.Ok (r : BurstRecord) : Prop where
  count_le : r.count ≤ Config.countLimit
  members : r.count = 0 → r.complete = 0 ∧ r.cut = 0

/-- The eleven records, each as R151 states. -/
structure EventRecords.EachOk (r : EventRecords) : Prop where
  logLevel : r.logLevel ≤ Config.countLimit
  logDrop : r.logDrop ≤ Config.countLimit
  logLapped : r.logLapped ≤ Config.countLimit
  trigFired : r.trigFired.Ok
  trigIgnored : r.trigIgnored.Ok
  burstEnd : r.burstEnd.Ok
  cmpHit : r.cmpHit.Ok
  axisFault : r.axisFault.Ok
  claimLost : r.claimLost.Ok
  markSeen : r.markSeen ≤ Config.countLimit
  aligned : r.aligned ≤ Config.countLimit

theorem EventRecords.ok_iff_eachOk (r : EventRecords) : r.ok ↔ r.EachOk := by
  constructor
  · rintro ⟨counts, fired, ignored, burst, hit, fault, lost⟩
    exact ⟨counts .logLevel, counts .logDrop, counts .logLapped, ⟨counts .trigFired, fired⟩,
      ⟨counts .trigIgnored, ignored⟩, ⟨counts .burstEnd, burst⟩, ⟨counts .cmpHit, hit⟩, ⟨counts .axisFault, fault⟩,
      ⟨counts .claimLost, lost⟩, counts .markSeen, counts .aligned⟩
  · intro h
    refine ⟨fun kind => ?_, h.trigFired.members, h.trigIgnored.members, h.burstEnd.members, h.cmpHit.members,
      h.axisFault.members, h.claimLost.members⟩
    cases kind with
    | logLevel => exact h.logLevel
    | logDrop => exact h.logDrop
    | logLapped => exact h.logLapped
    | trigFired => exact h.trigFired.count_le
    | trigIgnored => exact h.trigIgnored.count_le
    | burstEnd => exact h.burstEnd.count_le
    | cmpHit => exact h.cmpHit.count_le
    | axisFault => exact h.axisFault.count_le
    | claimLost => exact h.claimLost.count_le
    | markSeen => exact h.markSeen
    | aligned => exact h.aligned

/-! ### One raising (R153) -/

theorem countUp_le {v : Nat} (h : v ≤ Config.countLimit) : countUp v ≤ Config.countLimit := saturate_le h

/-- After a raising a count is never 0. -/
theorem countUp_ne_zero (v : Nat) : countUp v ≠ 0 := by
  unfold countUp saturate Config.countLimit
  split <;> omega

theorem SetRecord.Ok.file {n : Nat} {r : SetRecord n} (h : r.Ok) (i : Nat) : (r.file i).Ok :=
  ⟨countUp_le h.count_le, fun hzero => absurd hzero (countUp_ne_zero _)⟩

theorem BurstRecord.Ok.file {r : BurstRecord} (h : r.Ok) (c : ChannelId) (cut : Bool) : (r.file c cut).Ok := by
  cases cut <;> exact ⟨countUp_le h.count_le, fun hzero => absurd hzero (countUp_ne_zero _)⟩

/-- A raising files in the record of its kind alone. -/
theorem EventRecords.EachOk.file {r : EventRecords} (h : r.EachOk) (ev : Event) : (r.file ev).EachOk := by
  cases ev with
  | logLevel => exact { h with logLevel := countUp_le h.logLevel }
  | logDrop => exact { h with logDrop := countUp_le h.logDrop }
  | logLapped => exact { h with logLapped := countUp_le h.logLapped }
  | trigFired c => exact { h with trigFired := h.trigFired.file c }
  | trigIgnored c => exact { h with trigIgnored := h.trigIgnored.file c }
  | burstEnd c cut => exact { h with burstEnd := h.burstEnd.file c cut }
  | cmpHit e => exact { h with cmpHit := h.cmpHit.file e }
  | axisFault n => exact { h with axisFault := h.axisFault.file n }
  | claimLost k => exact { h with claimLost := h.claimLost.file k.index }
  | markSeen => exact { h with markSeen := countUp_le h.markSeen }
  | aligned => exact { h with aligned := countUp_le h.aligned }

theorem EventRecords.ok.file {r : EventRecords} (h : r.ok) (ev : Event) : (r.file ev).ok :=
  (EventRecords.ok_iff_eachOk _).mpr (((EventRecords.ok_iff_eachOk r).mp h).file ev)

/-! ### Records cleared (R154, R156) -/

theorem SetRecord.Ok.cleared {n : Nat} : SetRecord.Ok { count := 0, members := (0 : BitVec n) } :=
  ⟨Nat.zero_le _, fun _ => rfl⟩

theorem BurstRecord.Ok.cleared : BurstRecord.Ok { count := 0, complete := 0, cut := 0 } :=
  ⟨Nat.zero_le _, fun _ => ⟨rfl, rfl⟩⟩

theorem EventRecords.EachOk.clearKind {r : EventRecords} (h : r.EachOk) (kind : EventKind) : (r.clearKind kind).EachOk := by
  cases kind with
  | logLevel => exact { h with logLevel := Nat.zero_le _ }
  | logDrop => exact { h with logDrop := Nat.zero_le _ }
  | logLapped => exact { h with logLapped := Nat.zero_le _ }
  | trigFired => exact { h with trigFired := .cleared }
  | trigIgnored => exact { h with trigIgnored := .cleared }
  | burstEnd => exact { h with burstEnd := .cleared }
  | cmpHit => exact { h with cmpHit := .cleared }
  | axisFault => exact { h with axisFault := .cleared }
  | claimLost => exact { h with claimLost := .cleared }
  | markSeen => exact { h with markSeen := Nat.zero_le _ }
  | aligned => exact { h with aligned := Nat.zero_le _ }

theorem EventRecords.ok.clear {r : EventRecords} (h : r.ok) (kinds : KindSet) : (r.clear kinds).ok :=
  (EventRecords.ok_iff_eachOk _).mpr
    (foldl_preserves EventRecords.EachOk _ (fun _ kind ht => ht.clearKind kind) _ r ((EventRecords.ok_iff_eachOk r).mp h))

theorem EventRecords.ok_empty : EventRecords.empty.ok :=
  (EventRecords.ok_iff_eachOk _).mpr ⟨Nat.zero_le _, Nat.zero_le _, Nat.zero_le _, .cleared, .cleared, .cleared, .cleared,
    .cleared, .cleared, Nat.zero_le _, Nat.zero_le _⟩

end Sys2Proof.Machine

/-! ## What a happening may do to the event records (O14) -/

namespace Sys2Proof.Machine

namespace State.recordsOk

/-- What leaves the sessions as they are leaves their records. -/
theorem of_sessions {s t : State} (h : s.recordsOk) (he : t.sessions = s.sessions) : t.recordsOk := fun p ses hs =>
  h p ses (by rwa [State.session, he] at hs)

theorem ite {b : Prop} [Decidable b] {t u : State} (h : t.recordsOk) (k : u.recordsOk) :
    State.recordsOk (if b then t else u) := by
  split
  · exact h
  · exact k

/-- The records are kept when every session that is found after was there before, with the same records. -/
theorem of_before {s t : State} (h : s.recordsOk)
    (hb : ∀ p ses, t.session p = some ses → ∃ old, s.session p = some old ∧ old.records = ses.records) : t.recordsOk :=
  fun p ses hs => by
    obtain ⟨old, hold, he⟩ := hb p ses hs
    exact he ▸ h p old hold

variable {s : State}

/-- A session set to one whose records are as R151 states. -/
theorem setSession (h : s.recordsOk) (p : PortId) {new : Session} (hnew : new.records.ok) :
    (s.setSession p (some new)).recordsOk := fun q ses hq => by
  rw [State.setSession_session] at hq
  split at hq
  · cases hq
    exact hnew
  · exact h q ses hq

/-! ### Events and readers (R31, R152) -/

theorem raiseTo (h : s.recordsOk) (p : PortId) (ev : Event) : (s.raiseTo p ev).recordsOk := by
  unfold State.raiseTo
  split
  · exact h
  · next ses hs => exact h.setSession p ((h p ses hs).file ev)

theorem raiseToOwner (h : s.recordsOk) (r : Resource) (ev : Event) : (s.raiseToOwner r ev).recordsOk := by
  unfold State.raiseToOwner
  split
  · exact h
  · exact h.raiseTo _ ev

theorem raiseToAll (h : s.recordsOk) (ev : Event) : (s.raiseToAll ev).recordsOk :=
  foldl_preserves State.recordsOk _ (fun _ p ht => ht.raiseTo p ev) allPorts s h

theorem setReader (h : s.recordsOk) (p : PortId) (r : Option Reader) : (s.setReader p r).recordsOk := by
  unfold State.setReader
  split
  · exact h
  · next ses hs => exact h.setSession p (h p ses hs)

theorem levelCheck (h : s.recordsOk) (p : PortId) : (s.levelCheck p).recordsOk := by
  unfold State.levelCheck
  split
  · exact h
  · exact .ite (h.setReader p _) (.ite h ((h.setReader p _).raiseTo p _))

/-! ### Captures (R10 to R14) -/

theorem lap (tail : Seq) (h : s.recordsOk) (p : PortId) : (State.lap tail s p).recordsOk := by
  unfold State.lap
  split
  · exact h
  · exact .ite ((h.setReader p _).raiseTo p _) h

theorem setLog (h : s.recordsOk) (l : CaptureLog) : (s.setLog l).recordsOk := h.of_sessions rfl

theorem write (h : s.recordsOk) (c : Capture) : (s.write c).recordsOk := by
  unfold State.write State.levelChecks
  exact foldl_preserves State.recordsOk _ (fun _ p ht => ht.levelCheck p) allPorts _ (h.setLog _)

theorem evict (h : s.recordsOk) : s.evict.recordsOk := by
  unfold State.evict
  exact foldl_preserves State.recordsOk _ (fun _ p ht => ht.lap _ p) allPorts _ (h.setLog _)

theorem drop (h : s.recordsOk) : s.drop.recordsOk := by
  unfold State.drop State.raiseToReaders
  exact foldl_preserves State.recordsOk _ (fun _ p ht => .ite (ht.raiseTo p .logDrop) ht) allPorts _ (h.setLog _)

theorem capture (h : s.recordsOk) (c : Capture) : (s.capture c).1.recordsOk := by
  by_cases hroom : s.log.held < Config.logCapacity
  · rw [State.capture_of_room hroom]
    exact h.write c
  · by_cases hpin : s.tailPinned = true
    · rw [State.capture_of_pinned hroom hpin]
      exact h.drop
    · rw [State.capture_of_full hroom hpin]
      dsimp only
      exact h.evict.write c

theorem handOver (h : s.recordsOk) (c : Capture) : (s.handOver c).1.recordsOk :=
  (h.capture c).of_sessions (s.handOver_sessions c)

theorem arrive (h : s.recordsOk) (now rest : List Capture) : (s.arrive now rest).recordsOk :=
  foldl_preserves State.recordsOk _ (fun _ c ht => ht.handOver c) now _ (h.of_sessions rfl)

theorem reachLog (h : s.recordsOk) (order : LogOrder) : (s.reachLog order).recordsOk := h.arrive _ _

/-! ### Channels and lines (R45, R49, R51, R52, R54) -/

theorem setChannel (h : s.recordsOk) (c : ChannelId) (x : Channel) : (s.setChannel c x).recordsOk := h.of_sessions rfl
theorem setLine (h : s.recordsOk) (l : LineId) (x : TrigLine) : (s.setLine l x).recordsOk := h.of_sessions rfl
theorem request (h : s.recordsOk) (c : Capture) : (s.request c).recordsOk := h.of_sessions rfl

theorem fire (h : s.recordsOk) (c : ChannelId) : (s.fire c).recordsOk := by
  have noticed : (s.noticeAll c).recordsOk := h.of_sessions (s.noticeAll_sessions c)
  unfold State.fire
  exact setChannel (.ite (noticed.raiseToOwner _ _) noticed) c _

theorem triggerEvent (h : s.recordsOk) (c : ChannelId) : (s.triggerEvent c).recordsOk := by
  unfold State.triggerEvent
  dsimp only
  split
  · exact h
  · exact h
  · exact (h.request _).fire c
  · exact (h.setChannel c _).raiseToOwner _ _
  · exact (h.setChannel c _).raiseToOwner _ _

theorem triggerEvents (h : s.recordsOk) (l : List ChannelId) : (s.triggerEvents l).recordsOk :=
  foldl_preserves State.recordsOk _ (fun _ c ht => ht.triggerEvent c) l s h

theorem takeBurstStep (h : s.recordsOk) (c : ChannelId) : (s.takeBurstStep c).recordsOk :=
  have stepped := (h.request (s.channelCapture c (s.channel c).nextIndex)).setChannel c (s.channel c).afterStep
  .ite (.ite stepped (stepped.raiseToOwner _ _)) h

theorem sampleTrigLine (h : s.recordsOk) (l : LineId) (order : List ChannelId) : (s.sampleTrigLine l order).recordsOk :=
  .ite ((h.setLine l _).triggerEvents _) (h.setLine l _)

theorem showTrigLine (h : s.recordsOk) (l : LineId) (raw : Level) (order : List ChannelId) :
    (s.showTrigLine l raw order).recordsOk :=
  .ite (h.setLine l _) ((h.setLine l _).sampleTrigLine l order)

/-! ### Offers and axes (R72, R87, R99 to R101) -/

theorem setMark (h : s.recordsOk) (m : MarkUnit) : (s.setMark m).recordsOk := h.of_sessions rfl
theorem setGate (h : s.recordsOk) (g : GateId) (x : Gate) : (s.setGate g x).recordsOk := h.of_sessions rfl
theorem setAxis (h : s.recordsOk) (n : AxisId) (x : Axis) : (s.setAxis n x).recordsOk := h.of_sessions rfl
theorem onlyGates {t : State} (h : s.recordsOk) (k : OnlyGates s t) : t.recordsOk := h.of_sessions (by rw [k])
theorem onlyMet {t : State} (h : s.recordsOk) (k : OnlyMet s t) : t.recordsOk := h.of_sessions (by rw [k])
theorem onlyPark {t : State} (h : s.recordsOk) (k : OnlyPark s t) : t.recordsOk := h.of_sessions (by rw [k])
theorem onlyPorts {t : State} (h : s.recordsOk) (k : OnlyPorts s t) : t.recordsOk := h.of_sessions (by rw [k])

theorem requestMark (h : s.recordsOk) (e : EntryId) : (s.requestMark e).recordsOk :=
  .ite (h.setMark _) (h.onlyMet (s.setEntry_only e _))

theorem hit (h : s.recordsOk) (e : EntryId) : (s.hit e).recordsOk := by
  have recorded := h.onlyMet (s.setEntry_only e ((s.entry e).recordHit s.stamp))
  have told : State.recordsOk (if (s.entry e).event then
      (s.setEntry e ((s.entry e).recordHit s.stamp)).raiseToOwner (.entry e) (.cmpHit e)
      else s.setEntry e ((s.entry e).recordHit s.stamp)) := .ite (recorded.raiseToOwner _ _) recorded
  have pulsed := told.onlyGates (State.pulseGates_only _ e)
  exact .ite (pulsed.requestMark e) pulsed

theorem offerEntry (kind : OfferKind) (v : Int) (h : s.recordsOk) (e : EntryId) :
    (State.offerEntry kind v s e).recordsOk :=
  have met := h.onlyMet (s.setMet_only e ((s.entry e).condition v))
  .ite h (.ite (met.hit e) met)

theorem offer (h : s.recordsOk) (n : AxisId) (kind : OfferKind) (entries : List EntryId) :
    (s.offer n kind entries).recordsOk :=
  foldl_preserves State.recordsOk _ (fun _ e ht => ht.offerEntry kind _ e) _ s h

theorem faultAxis (h : s.recordsOk) (n : AxisId) (x : Axis) (cause : FaultCause) : (s.faultAxis n x cause).recordsOk :=
  (h.setAxis n _).raiseToOwner _ _

theorem applyDecoded (h : s.recordsOk) (n : AxisId) (d : Decoded) (entries : List EntryId) (channels : List ChannelId) :
    (s.applyDecoded n d entries channels).recordsOk := by
  unfold State.applyDecoded
  dsimp only
  split
  · exact h
  · split
    · exact h
    · exact h.faultAxis n _ _
    · split
      · exact ((h.setAxis n _).offer n .step entries).triggerEvents _
      · exact h.faultAxis n _ _

theorem sampleAB (h : s.recordsOk) (n : AxisId) (entries : List EntryId) (channels : List ChannelId) :
    (s.sampleAB n entries channels).recordsOk := (h.setAxis n _).applyDecoded n _ entries channels

theorem sampleZ (h : s.recordsOk) (n : AxisId) (channels : List ChannelId) : (s.sampleZ n channels).recordsOk :=
  .ite ((h.setAxis n _).triggerEvents _) (h.setAxis n _)

theorem showAxis (h : s.recordsOk) (n : AxisId) (input : AxisInput) : (s.showAxis n input).recordsOk := by
  cases input with
  | ab a b entries channels =>
    exact .ite (h.setAxis n _) (.ite ((h.sampleAB n entries channels.events).setAxis n _) ((h.setAxis n _).sampleAB n _ _))
  | z z channels => exact .ite (h.setAxis n _) ((h.setAxis n _).sampleZ n _)

/-! ### The MARK line (R120, R123, R124, R126) -/

theorem takeMarkPulseEnd (h : s.recordsOk) : s.takeMarkPulseEnd.recordsOk := .ite (h.setMark _) h
theorem takeRearm (h : s.recordsOk) : s.takeRearm.recordsOk := .ite (h.setMark _) h

theorem setTime (h : s.recordsOk) (t : Timebase) : (s.setTime t).recordsOk := h.of_sessions rfl

theorem alignAtEdge (h : s.recordsOk) : s.alignAtEdge.recordsOk := .ite ((h.setTime _).raiseToAll _) h
theorem markCapture (h : s.recordsOk) : s.markCapture.recordsOk := .ite h (h.request _)
theorem markNotify (h : s.recordsOk) : s.markNotify.recordsOk := .ite (h.raiseToAll _) h

theorem sampleMark (h : s.recordsOk) (order : List ChannelId) : (s.sampleMark order).recordsOk :=
  have sampled := h.setMark s.mark.sample.1
  .ite (sampled.alignAtEdge.markCapture.triggerEvents _).markNotify sampled

theorem takeRecognisedEdge (h : s.recordsOk) (order : List ChannelId) : (s.takeRecognisedEdge order).recordsOk :=
  .ite (h.sampleMark order) h

/-! ### Sessions opened, closed and reloaded (R134, R135, R138) -/

/-- A session reloaded keeps its records (R134). -/
theorem reloadTimer (h : s.recordsOk) (p : PortId) : (s.reloadTimer p).recordsOk := by
  unfold State.reloadTimer
  split
  · exact h
  · next ses hs => exact h.setSession p (h p ses hs)

theorem setOwner (h : s.recordsOk) (r : Resource) (o : Option PortId) : (s.setOwner r o).recordsOk := h.of_sessions rfl

/-- A close takes the records away with the session (R138). -/
theorem closeSession (h : s.recordsOk) (p : PortId) : (s.closeSession p).recordsOk :=
  h.of_before fun q ses hq => by
    rw [State.closeSession_session] at hq
    split at hq
    · cases hq
    · exact ⟨ses, hq, rfl⟩

theorem closeAll (h : s.recordsOk) : s.closeAll.recordsOk :=
  foldl_preserves State.recordsOk _ (fun _ p ht => .ite (ht.closeSession p) ht) allPorts s h

theorem expire (h : s.recordsOk) (p : PortId) : (s.expire p).recordsOk := (h.closeSession p).of_sessions rfl

theorem takeExpiry (h : s.recordsOk) (p : PortId) : (s.takeExpiry p).recordsOk := .ite (h.expire p) h
theorem expireLast (h : s.recordsOk) (p : PortId) : (s.expireLast p).recordsOk := .ite (h.expire p) h

theorem setPort (h : s.recordsOk) (p : PortId) (q : Port) : (s.setPort p q).recordsOk := h.of_sessions rfl

theorem acceptFrame (h : s.recordsOk) (p : PortId) (incoming : List Byte) (f : Frame) :
    (s.acceptFrame p incoming f).recordsOk := (h.setPort p _).reloadTimer p

theorem endTransaction (h : s.recordsOk) (p : PortId) (received : List Byte) : (s.endTransaction p received).recordsOk := by
  have before : (s.beforeFrame p).recordsOk := .ite (h.expire p) h
  unfold State.endTransaction
  dsimp only
  split
  · exact h
  · exact h
  · split
    · exact h.setPort p _
    · exact h.setPort p _
    · exact before.acceptFrame p _ _

end State.recordsOk

/-- After pin reset no session is open (R132). -/
theorem State.pinReset_recordsOk (s : State) : s.pinReset.recordsOk := fun p _ hp =>
  absurd ((State.reset_session p).symm.trans hp) nofun

theorem Session.tick_records (ses : Session) : ses.tick.records = ses.records := by
  unfold Session.tick
  split <;> rfl

/-- The idle timers count at the beginning of a tick, and the records stand (R135). -/
theorem State.recordsOk.beginTick {s : State} (h : s.recordsOk) : s.beginTick.recordsOk :=
  h.of_before fun p ses hp => by
    rw [State.beginTick_session] at hp
    obtain ⟨old, hold, rfl⟩ := Option.map_eq_some_iff.mp hp
    exact ⟨old, hold, old.tick_records.symm⟩

end Sys2Proof.Machine

/-! ## Every step keeps the event records (O14) -/

namespace Sys2Proof.Machine

/-! ### The requests (R133, R137, R142, R145 to R147, R156, R157, R172) -/

/-- A request that keeps the event records as R151 states. -/
def Server.KeepsRecords (serve : Server) : Prop := ∀ p payload s, s.recordsOk → Leaves State.recordsOk (serve p payload s)

/-- A new session begins with empty records (R154). -/
theorem openServer_keepsRecords : Server.KeepsRecords openServer := fun p _ _ h =>
  leaves_bind fun _ _ => leaves_bind fun _ _ => leaves_bind fun _ _ => leaves_bind fun _ _ =>
    leaves_ok (h.setSession p EventRecords.ok_empty)

theorem closeServer_keepsRecords : Server.KeepsRecords closeServer := fun p _ _ h =>
  leaves_sessionRequest fun _ _ _ => leaves_ok (h.closeSession p)

theorem pingServer_keepsRecords : Server.KeepsRecords pingServer := fun _ _ _ h =>
  leaves_sessionRequest fun _ _ _ => leaves_ok h

theorem deviceInfoServer_keepsRecords : Server.KeepsRecords deviceInfoServer := fun _ _ _ h =>
  leaves_sessionRequest fun _ _ _ => leaves_ok h

theorem deviceResetServer_keepsRecords : Server.KeepsRecords deviceResetServer := fun _ _ _ h =>
  leaves_sessionRequest fun _ _ _ => leaves_bind fun _ _ => leaves_ok (h.closeAll.of_sessions rfl)

/-- A CLAIM that preempts files CLAIM_LOST to the owner before (R146). -/
theorem claimServer_keepsRecords : Server.KeepsRecords claimServer := fun p _ _ h =>
  leaves_sessionRequest fun _ _ _ => leaves_bind fun r _ => leaves_bind fun _ _ => by
    have claimed := h.setOwner r (some p)
    split
    · exact leaves_ok claimed
    · split
      · exact leaves_ok h
      · split
        · exact leaves_error _
        · split
          · exact leaves_ok (claimed.raiseTo _ _)
          · exact leaves_error _

theorem releaseServer_keepsRecords : Server.KeepsRecords releaseServer := fun _ _ s h =>
  leaves_sessionRequest fun _ _ _ => leaves_bind fun r _ => leaves_bind fun _ _ => leaves_ok (h.onlyPark (s.giveUp_only r))

theorem whoOwnsServer_keepsRecords : Server.KeepsRecords whoOwnsServer := fun _ _ _ h =>
  leaves_sessionRequest fun _ _ _ => by
    unfold whoOwnsBody
    split
    · exact leaves_ok h
    · exact leaves_bind fun _ _ => leaves_ok h

theorem axisSetupServer_keepsRecords : Server.KeepsRecords axisSetupServer := fun _ _ _ h =>
  leaves_sessionRequest fun _ _ _ => leaves_bind fun n _ => leaves_bind fun _ _ => leaves_bind fun _ _ =>
    leaves_bind fun _ _ => leaves_bind fun _ _ => leaves_ok (h.setAxis n _)

theorem axisSpanServer_keepsRecords : Server.KeepsRecords axisSpanServer := fun _ _ _ h =>
  leaves_sessionRequest fun _ _ _ => leaves_bind fun n _ => leaves_bind fun _ _ => leaves_bind fun _ _ =>
    leaves_ok ((h.setAxis n _).offer n _ _)

theorem axisPresetServer_keepsRecords : Server.KeepsRecords axisPresetServer := fun _ _ _ h =>
  leaves_sessionRequest fun _ _ _ => leaves_bind fun n _ => leaves_bind fun _ _ => leaves_bind fun _ _ =>
    leaves_bind fun _ _ => leaves_ok ((h.setAxis n _).offer n _ _)

theorem axisClearFaultServer_keepsRecords : Server.KeepsRecords axisClearFaultServer := fun _ _ _ h =>
  leaves_sessionRequest fun _ _ _ => leaves_bind fun n _ => leaves_bind fun _ _ => leaves_bind fun _ _ =>
    leaves_bind fun _ _ => leaves_ok ((h.setAxis n _).offer n _ _)

theorem axisReadServer_keepsRecords : Server.KeepsRecords axisReadServer := fun _ _ _ h =>
  leaves_sessionRequest fun _ _ _ => leaves_bind fun _ _ => leaves_bind fun _ _ => leaves_ok h

theorem snapServer_keepsRecords : Server.KeepsRecords snapServer := fun _ _ _ h =>
  leaves_sessionRequest fun _ _ _ => leaves_bind fun _ _ => leaves_bind fun _ _ => leaves_bind fun _ _ => by
    dsimp only
    split
    · exact leaves_ok (h.capture _)
    · exact leaves_ok h

theorem timeReadServer_keepsRecords : Server.KeepsRecords timeReadServer := fun _ _ _ h =>
  leaves_sessionRequest fun _ _ _ => leaves_ok h

theorem alignArmServer_keepsRecords : Server.KeepsRecords alignArmServer := fun _ _ _ h =>
  leaves_sessionRequest fun _ _ _ => leaves_bind fun _ _ => leaves_bind fun _ _ => leaves_ok (h.setTime _)

theorem alignCancelServer_keepsRecords : Server.KeepsRecords alignCancelServer := fun _ _ _ h =>
  leaves_sessionRequest fun _ _ _ => leaves_bind fun _ _ => leaves_ok (h.setTime _)

theorem markSetupServer_keepsRecords : Server.KeepsRecords markSetupServer := fun _ _ _ h =>
  leaves_sessionRequest fun _ _ _ => leaves_bind fun _ _ => leaves_bind fun _ _ => leaves_bind fun _ _ =>
    leaves_ok (h.setMark _)

theorem markPulseServer_keepsRecords : Server.KeepsRecords markPulseServer := fun _ _ _ h =>
  leaves_sessionRequest fun _ _ _ => leaves_bind fun _ _ => leaves_ok (h.setMark _)

theorem trigSetupServer_keepsRecords : Server.KeepsRecords trigSetupServer := fun _ _ _ h =>
  leaves_sessionRequest fun _ _ _ => leaves_bind fun c _ => leaves_bind fun _ _ => leaves_bind fun _ _ =>
    leaves_bind fun _ _ => leaves_ok ((h.arrive _ _).setChannel c _)

theorem trigLineFilterServer_keepsRecords : Server.KeepsRecords trigLineFilterServer := fun _ _ _ h =>
  leaves_sessionRequest fun _ _ _ => leaves_bind fun l _ => leaves_bind fun _ _ => leaves_ok (h.setLine l _)

theorem trigArmServer_keepsRecords : Server.KeepsRecords trigArmServer := fun _ _ _ h =>
  leaves_sessionRequest fun _ _ _ => leaves_bind fun c _ => leaves_bind fun _ _ => leaves_bind fun _ _ =>
    leaves_ok (h.setChannel c _)

/-- A burst cut by TRIG_DISARM files BURST_END (R56). -/
theorem trigDisarmServer_keepsRecords : Server.KeepsRecords trigDisarmServer := fun _ _ s h =>
  leaves_sessionRequest fun _ _ _ => leaves_bind fun c _ => leaves_bind fun _ _ =>
    have disarmed := h.setChannel c (s.channel c).disarmed
    leaves_ok (.ite (disarmed.raiseToOwner _ _) disarmed)

theorem trigFireServer_keepsRecords : Server.KeepsRecords trigFireServer := fun _ _ _ h =>
  leaves_sessionRequest fun _ _ _ => leaves_bind fun c _ => leaves_bind fun _ _ => leaves_bind fun _ _ =>
    leaves_ok ((h.fire c).handOver _)

theorem trigStatusServer_keepsRecords : Server.KeepsRecords trigStatusServer := fun _ _ _ h =>
  leaves_sessionRequest fun _ _ _ => leaves_bind fun _ _ => leaves_ok h

theorem logSubscribeServer_keepsRecords : Server.KeepsRecords logSubscribeServer := fun p _ _ h =>
  leaves_sessionRequest fun _ _ _ => leaves_bind fun _ _ => leaves_bind fun _ _ => leaves_bind fun _ _ =>
    leaves_ok ((h.setReader p _).levelCheck p)

theorem logUnsubscribeServer_keepsRecords : Server.KeepsRecords logUnsubscribeServer := fun p _ _ h =>
  leaves_sessionRequest fun _ _ _ => leaves_bind fun _ _ => leaves_ok (h.setReader p none)

theorem logFetchServer_keepsRecords : Server.KeepsRecords logFetchServer := fun _ _ _ h =>
  leaves_sessionRequest fun _ _ _ => leaves_bind fun _ _ => leaves_bind fun _ _ => leaves_ok h

theorem logReleaseServer_keepsRecords : Server.KeepsRecords logReleaseServer := fun p _ _ h =>
  leaves_sessionRequest fun _ _ _ => leaves_bind fun _ _ => by
    dsimp only
    split
    · exact leaves_error _
    · exact leaves_ok h
    · exact leaves_ok ((h.setReader p _).levelCheck p)

theorem logStatusServer_keepsRecords : Server.KeepsRecords logStatusServer := fun _ _ _ h =>
  leaves_sessionRequest fun _ _ _ => by
    unfold logStatusBody
    dsimp only
    split <;> exact leaves_ok h

theorem cmpSetupServer_keepsRecords : Server.KeepsRecords cmpSetupServer := fun _ _ s h =>
  leaves_sessionRequest fun _ _ _ => leaves_bind fun e _ => leaves_bind fun _ _ => leaves_bind fun _ _ =>
    leaves_bind fun _ _ => leaves_bind fun _ _ => leaves_bind fun _ _ => leaves_bind fun _ _ =>
      leaves_ok (h.onlyMet (s.replaceEntry_only e _))

theorem cmpEnableServer_keepsRecords : Server.KeepsRecords cmpEnableServer := fun _ _ s h =>
  leaves_sessionRequest fun _ _ _ => leaves_bind fun e _ => leaves_bind fun _ _ =>
    leaves_ok (h.onlyMet (s.replaceEntry_only e _))

theorem cmpDisableServer_keepsRecords : Server.KeepsRecords cmpDisableServer := fun _ _ s h =>
  leaves_sessionRequest fun _ _ _ => leaves_bind fun e _ => leaves_bind fun _ _ =>
    leaves_ok (h.onlyMet (s.replaceEntry_only e _))

theorem cmpStatusServer_keepsRecords : Server.KeepsRecords cmpStatusServer := fun _ _ _ h =>
  leaves_sessionRequest fun _ _ _ => leaves_bind fun _ _ => leaves_ok h

theorem gateSetupServer_keepsRecords : Server.KeepsRecords gateSetupServer := fun _ _ _ h =>
  leaves_sessionRequest fun _ _ _ => leaves_bind fun g _ => leaves_bind fun _ _ => leaves_bind fun _ _ =>
    leaves_bind fun _ _ => leaves_bind fun _ _ => leaves_bind fun _ _ => leaves_ok (h.setGate g _)

theorem gateSetServer_keepsRecords : Server.KeepsRecords gateSetServer := fun _ _ _ h =>
  leaves_sessionRequest fun _ _ _ => leaves_bind fun g _ => leaves_bind fun _ _ => leaves_bind fun _ _ =>
    leaves_ok (h.setGate g _)

theorem gateStatusServer_keepsRecords : Server.KeepsRecords gateStatusServer := fun _ _ _ h =>
  leaves_sessionRequest fun _ _ _ => leaves_bind fun _ _ => leaves_ok h

theorem eventMaskServer_keepsRecords : Server.KeepsRecords eventMaskServer := fun p _ _ h =>
  leaves_sessionRequest fun ses hs _ => leaves_bind fun _ _ => leaves_ok (h.setSession p (h p ses hs))

theorem eventReadServer_keepsRecords : Server.KeepsRecords eventReadServer := fun _ _ _ h =>
  leaves_sessionRequest fun _ _ _ => leaves_ok h

/-- EVENT_ACK clears counts and sets together (R156). -/
theorem eventAckServer_keepsRecords : Server.KeepsRecords eventAckServer := fun p _ _ h =>
  leaves_sessionRequest fun ses hs _ => leaves_bind fun kinds _ => leaves_ok (h.setSession p ((h p ses hs).clear kinds))

/-- Every request of the table keeps the event records. -/
theorem requestTable_keepsRecords : ∀ e ∈ requestTable, Server.KeepsRecords e.2 := by
  simp only [requestTable, List.forall_mem_cons]
  exact ⟨openServer_keepsRecords, closeServer_keepsRecords, pingServer_keepsRecords, deviceInfoServer_keepsRecords,
    deviceResetServer_keepsRecords, claimServer_keepsRecords, releaseServer_keepsRecords, whoOwnsServer_keepsRecords,
    axisSetupServer_keepsRecords, axisSpanServer_keepsRecords, axisPresetServer_keepsRecords,
    axisClearFaultServer_keepsRecords, axisReadServer_keepsRecords, snapServer_keepsRecords, timeReadServer_keepsRecords,
    alignArmServer_keepsRecords, alignCancelServer_keepsRecords, markSetupServer_keepsRecords,
    markPulseServer_keepsRecords, trigSetupServer_keepsRecords, trigLineFilterServer_keepsRecords,
    trigArmServer_keepsRecords, trigDisarmServer_keepsRecords, trigFireServer_keepsRecords, trigStatusServer_keepsRecords,
    logSubscribeServer_keepsRecords, logUnsubscribeServer_keepsRecords, logFetchServer_keepsRecords,
    logReleaseServer_keepsRecords, logStatusServer_keepsRecords, cmpSetupServer_keepsRecords, cmpEnableServer_keepsRecords,
    cmpDisableServer_keepsRecords, cmpStatusServer_keepsRecords, gateSetupServer_keepsRecords, gateSetServer_keepsRecords,
    gateStatusServer_keepsRecords, eventMaskServer_keepsRecords, eventReadServer_keepsRecords,
    eventAckServer_keepsRecords, List.forall_mem_nil _⟩

namespace State.recordsOk

variable {s : State}

theorem takeNextRequest (h : s.recordsOk) : s.takeNextRequest.recordsOk :=
  State.takeNextRequest_preserves (P := State.recordsOk) (fun _ _ ht => ht.of_sessions rfl) (fun _ _ _ ht => ht.of_sessions rfl)
    (fun _ ht => ht.arrive _ _) (fun t p ht => ht.of_sessions (by rw [t.discardAll_eq])) requestTable_keepsRecords s h

/-! ### The tick (log entry 2) -/

theorem sampleAxesLeft (h : s.recordsOk) : s.sampleAxesLeft.recordsOk := by
  rw [s.sampleAxesLeft_eq]
  refine foldl_preserves State.recordsOk _ (fun t n ht => ?_) allAxes s h
  have sampled : State.recordsOk (if (t.axis n).sampledAB then t else t.sampleAB n [] []) := .ite ht (ht.sampleAB n [] [])
  exact .ite sampled (sampled.sampleZ n [])

theorem sampleLinesLeft (h : s.recordsOk) : s.sampleLinesLeft.recordsOk :=
  foldl_preserves State.recordsOk _ (fun _ l ht => .ite ht (ht.sampleTrigLine l [])) allLines s h

theorem burstStepsLeft (h : s.recordsOk) : s.burstStepsLeft.recordsOk :=
  foldl_preserves State.recordsOk _ (fun _ c ht => ht.takeBurstStep c) allChannels s h

theorem endFieldSide (h : s.recordsOk) : s.endFieldSide.recordsOk :=
  have stepped := h.takeMarkPulseEnd.sampleAxesLeft.sampleLinesLeft.burstStepsLeft
  (stepped.onlyGates (State.gatePulseEndsLeft_only _)).arrive _ _

theorem endPorts (h : s.recordsOk) : s.endPorts.recordsOk := by
  have expired := foldl_preserves State.recordsOk _ (fun _ p ht => ht.takeExpiry p) allPorts s h
  have last := foldl_preserves State.recordsOk _ (fun _ p ht => ht.expireLast p) allPorts _ expired.takeNextRequest
  exact last.takeNextRequest

theorem finishTick (h : s.recordsOk) : s.finishTick.recordsOk := by
  have ports := h.endFieldSide.endPorts
  have sampled : s.endFieldSide.endPorts.sampleMarkLeft.recordsOk := .ite (ports.sampleMark []) ports
  rw [s.finishTick_eq]
  exact sampled.arrive _ _

end State.recordsOk

/-! ### The step -/

/-- A happening that is no request keeps the event records. -/
theorem exec_recordsOk_of_happening {c : Instr} {s t : State} (hc : requestOf c = none) (h : s.recordsOk)
    (ht : exec c s = .next t) : t.recordsOk := by
  cases c with
  | pinReset => cases ht; exact s.pinReset_recordsOk
  | portUnblock p => cases ht; exact h.onlyPorts (s.unblock_only p)
  | transactionBegin p => cases ht; exact h.onlyPorts (s.beginTransaction_only p)
  | statusByteShifted p received => cases ht; exact h.onlyPorts (s.showStatus_only p received)
  | responseDelivered p received => cases ht; exact h.onlyPorts (s.deliverResponse_only p received)
  | transactionEnd p received => cases ht; exact h.endTransaction p received
  | sessionExpiry p => cases ht; exact h.takeExpiry p
  | axisLevelChange n input => cases ht; exact (h.showAxis n input).reachLog _
  | gatePulseEnd g => cases ht; exact h.onlyGates (s.takeGatePulseEnd_only g)
  | trigLevelChange l raw channels => cases ht; exact (h.showTrigLine l raw _).reachLog _
  | burstStep step => cases ht; exact (h.takeBurstStep step.channel).reachLog _
  | markPulseEnd => cases ht; exact h.takeMarkPulseEnd
  | recognisedEdge events log => cases ht; exact (h.takeRecognisedEdge events).reachLog _
  | recognizerRearm => cases ht; exact h.takeRearm
  | markLineChange outside => cases ht; exact h.setMark _
  | tickCountAdvance =>
    have he : s.finishTick.beginTick = t := Host.Outcome.next.inj ht
    exact he ▸ h.finishTick.beginTick
  | _ => cases hc

theorem exec_recordsOk {c : Instr} {s t : State} (h : s.recordsOk) (ht : exec c s = .next t) : t.recordsOk := by
  cases hc : requestOf c with
  | none => exact exec_recordsOk_of_happening hc h ht
  | some request =>
    rcases exec_request_cases hc s with he | he <;> rw [he] at ht <;> cases ht
    · exact h
    · exact h.takeNextRequest

/-- Settles O14: records change by a raising, which leaves a count from 1 to 255, by EVENT_ACK, which clears count and sets
together, and with OPEN, which brings empty ones. -/
theorem stepKeepsEventRecordsExact : Obligations.StepKeepsEventRecordsExact := by
  intro s t h ht
  unfold step at ht
  split at ht
  · cases ht
    exact h
  · next c rest _ => exact exec_recordsOk (s := { s with pending := rest }) h ht

end Sys2Proof.Machine

/-! ## The receivers of an event, and what is filed (O59) -/

namespace Sys2Proof.Machine

/-! ### The receivers (R16, R152) -/

/-- A raising to every open session files in each, and does nothing else (R152). -/
theorem State.raiseToAll_session (s : State) (ev : Event) (q : PortId) :
    (s.raiseToAll ev).session q = (s.session q).map (Session.filed ev) :=
  foldl_ports_session (fun _ => ev) Session.filed _ (fun _ _ => rfl) (fun t p q => t.raiseTo_session p q ev) s q

/-- A session with one raising filed where it has a reader (R16). -/
def Session.filedAtReader (ev : Event) (ses : Session) : Session := if ses.reader.isSome then ses.filed ev else ses

/-- A raising to the readers at one port acts on its session alone. -/
theorem State.raiseToReader_session (s : State) (p q : PortId) (ev : Event) :
    (if (s.reader p).isSome then s.raiseTo p ev else s).session q =
      if q = p then (s.session q).map (Session.filedAtReader ev) else s.session q := by
  rw [State.reader_eq]
  by_cases hq : q = p
  · subst hq
    cases hs : s.session q with
    | none => simp [hs]
    | some ses =>
      cases hr : ses.reader <;> simp [hs, hr, Session.filedAtReader, State.raiseTo_session]
  · rw [if_neg hq]
    split
    · rw [State.raiseTo_session, if_neg hq]
    · rfl

/-- A raising to the readers files in every session with a reader, and does nothing else (R16). -/
theorem State.raiseToReaders_session (s : State) (ev : Event) (q : PortId) :
    (s.raiseToReaders ev).session q = (s.session q).map (Session.filedAtReader ev) :=
  foldl_ports_session (fun _ => ev) Session.filedAtReader _ (fun _ _ => rfl)
    (fun t p q => t.raiseToReader_session p q ev) s q

/-! ### The set of a record (R153) -/

/-- A set with a number added has that number beside those it had. -/
theorem inSet_withMember {n : Nat} (set : BitVec n) {i : Nat} (hi : i < n) (j : Nat) :
    inSet (withMember set i) j = (inSet set j || decide (j = i)) := by
  have added : (BitVec.ofNat n (2 ^ i)).getLsbD j = decide (j = i) := by
    rw [BitVec.getLsbD_ofNat, Nat.testBit_two_pow]
    by_cases h : j = i
    · simp [h, hi]
    · simp [h, Ne.symm h]
  rw [inSet, withMember, BitVec.getLsbD_or, added, inSet]

/-- Settles O59: the receivers port by port, then what each kind files. -/
theorem eventsAreFiledToTheirReceivers : Obligations.EventsAreFiledToTheirReceivers := by
  refine ⟨fun s r ev => ⟨s.raiseToOwner_session r ev, s.raiseToAll_session ev, s.raiseToReaders_session ev,
    s.raiseToOwner_only r ev, s.raiseToAll_only ev, s.raiseToReaders_only ev⟩, fun r => ?_⟩
  exact ⟨rfl, rfl, rfl, rfl, rfl,
    fun c => ⟨_, rfl, inSet_withMember _ c.isLt⟩, fun c => ⟨_, rfl, inSet_withMember _ c.isLt⟩,
    fun c => ⟨_, rfl, inSet_withMember _ c.isLt⟩, fun c => ⟨_, rfl, inSet_withMember _ c.isLt⟩,
    fun e => ⟨_, rfl, inSet_withMember _ e.isLt⟩, fun n => ⟨_, rfl, inSet_withMember _ n.isLt⟩,
    fun k => ⟨_, rfl, inSet_withMember _ k.index.isLt⟩⟩

end Sys2Proof.Machine

/-! ## EVENT_READ, EVENT_MASK and EVENT_ACK (O58) -/

namespace Sys2Proof.Machine

/-! ### The bytes of the records (R155, R188) -/

/-- A byte read as a number is sent as this byte. -/
theorem byteOfNat_toNat (b : Byte) : byteOfNat b.toNat = b := by simp [byteOfNat]

theorem bytesOfNat_one (v : Nat) : bytesOfNat 1 v = [byteOfNat v] := rfl

theorem flatMap_filter_eq {α β : Type} (named : α → Bool) (g : α → List β) (l : List α) :
    (l.filter named).flatMap g = l.flatMap fun x => if named x then g x else [] := by
  induction l with
  | nil => rfl
  | cons x l ih => by_cases hx : named x <;> simp [hx, ih]

/-- The named records one after the other, in the order of R151 and the layout of R188. -/
theorem EventRecords.block_eq (r : EventRecords) (kinds : KindSet) : r.block kinds = recordBytes r kinds := by
  rw [EventRecords.block, flatMap_filter_eq]
  simp only [allKinds, List.flatMap_cons, List.flatMap_nil, inSet, EventKind.index, EventRecords.bytes, bytesOfNat_one,
    byteOfNat_toNat, List.cons_append, List.nil_append, recordBytes, List.append_assoc, List.append_nil]

/-! ### The records acknowledged (R156) -/

theorem EventRecords.eq_of_fields {r u : EventRecords} (logLevel : r.logLevel = u.logLevel) (logDrop : r.logDrop = u.logDrop)
    (logLapped : r.logLapped = u.logLapped) (trigFired : r.trigFired = u.trigFired) (trigIgnored : r.trigIgnored = u.trigIgnored)
    (burstEnd : r.burstEnd = u.burstEnd) (cmpHit : r.cmpHit = u.cmpHit) (axisFault : r.axisFault = u.axisFault)
    (claimLost : r.claimLost = u.claimLost) (markSeen : r.markSeen = u.markSeen) (aligned : r.aligned = u.aligned) : r = u := by
  cases r
  cases u
  congr

/-- What the clearing of one kind alone sets, the clearing of a list of kinds sets when that kind is in the list. -/
theorem EventRecords.clearKinds_field {β : Type} {get : EventRecords → β} {zero : β} {kind : EventKind}
    (h : ∀ r k, get (EventRecords.clearKind r k) = if k = kind then zero else get r) (l : List EventKind) (r : EventRecords) :
    get (l.foldl EventRecords.clearKind r) = if kind ∈ l then zero else get r := by
  induction l generalizing r with
  | nil => simp
  | cons k l ih =>
    rw [List.foldl_cons, ih, h]
    by_cases hk : k = kind
    · simp [hk]
    · simp [hk, Ne.symm hk]

/-- A field that the clearing of its kind alone sets is cleared when its kind is named. -/
theorem EventRecords.clear_field {β : Type} {get : EventRecords → β} {zero : β} (kind : EventKind)
    (h : ∀ r k, get (EventRecords.clearKind r k) = if k = kind then zero else get r) (r : EventRecords) (kinds : KindSet) :
    get (r.clear kinds) = if kinds.getLsbD kind.index then zero else get r := by
  rw [EventRecords.clear, EventRecords.clearKinds_field h]
  simp only [List.mem_filter, mem_allKinds, true_and, inSet]

theorem EventRecords.clear_eq (r : EventRecords) (kinds : KindSet) : r.clear kinds = acknowledged r kinds :=
  EventRecords.eq_of_fields
    (EventRecords.clear_field .logLevel (fun _ k => by cases k <;> rfl) r kinds)
    (EventRecords.clear_field .logDrop (fun _ k => by cases k <;> rfl) r kinds)
    (EventRecords.clear_field .logLapped (fun _ k => by cases k <;> rfl) r kinds)
    (EventRecords.clear_field .trigFired (fun _ k => by cases k <;> rfl) r kinds)
    (EventRecords.clear_field .trigIgnored (fun _ k => by cases k <;> rfl) r kinds)
    (EventRecords.clear_field .burstEnd (fun _ k => by cases k <;> rfl) r kinds)
    (EventRecords.clear_field .cmpHit (fun _ k => by cases k <;> rfl) r kinds)
    (EventRecords.clear_field .axisFault (fun _ k => by cases k <;> rfl) r kinds)
    (EventRecords.clear_field .claimLost (fun _ k => by cases k <;> rfl) r kinds)
    (EventRecords.clear_field .markSeen (fun _ k => by cases k <;> rfl) r kinds)
    (EventRecords.clear_field .aligned (fun _ k => by cases k <;> rfl) r kinds)

/-! ### Attention and the kind set (R158, R177) -/

/-- The attention byte is 01H exactly when some kind of the mask has a count above 0 (R158). -/
theorem attentionByte_eq (ses : Session) :
    [byteOfFlag ses.attention] =
      if allKinds.any (fun kind => ses.mask.getLsbD kind.index && decide (0 < ses.records.count kind)) then [1] else [0] :=
  apply_ite (fun b : Byte => [b]) (ses.attention = true) 1 0

/-- A kind set above 2047 is refused (R177). -/
theorem kindSetField_eq (h l : Byte) :
    setField 11 2 [h, l] 0 =
      if 7 < h.toNat then .error .badValue else .ok (BitVec.ofNat 11 (h.toNat * 256 + l.toNat)) := by
  have value : natAt [h, l] 0 2 = h.toNat * 256 + l.toNat := by simp [natAt, natOfBytes]
  have beyond : 2 ^ 11 ≤ h.toNat * 256 + l.toNat ↔ 7 < h.toNat := by bv_omega
  simp only [setField_eq, value, beyond]

/-- A kind set that is not refused is sent back as it came. -/
theorem bytesOfNat_kindSet {h l : Byte} (hh : ¬7 < h.toNat) :
    bytesOfNat 2 (BitVec.ofNat 11 (h.toNat * 256 + l.toNat)).toNat = [h, l] := by
  have fits : h.toNat * 256 + l.toNat < 2 ^ 11 := by bv_omega
  have value : natOfBytes [h, l] = h.toNat * 256 + l.toNat := by simp [natOfBytes]
  rw [BitVec.toNat_ofNat, Nat.mod_eq_of_lt fits, ← value]
  exact bytesOfNat_natOfBytes [h, l]

/-! ### The requests (R155 to R157) -/

/-- EVENT_MASK on a port with a session (R157). -/
theorem eventMaskServer_eq {s : State} {p : PortId} {ses : Session} (hs : s.session p = some ses) (h l : Byte) :
    eventMaskServer p [h, l] s =
      let new := { ses with mask := BitVec.ofNat 11 (h.toNat * 256 + l.toNat) }
      if 7 < h.toNat then .error .badValue
      else .ok ([h, l] ++ [byteOfFlag new.attention], s.setSession p (some new)) := by
  rw [eventMaskServer, sessionRequest_of_some (len := 2) (payload := [h, l]) hs rfl, eventMaskBody, kindSetField_eq,
    ite_error_bind, ok_bind]
  refine ite_congr rfl (fun _ => rfl) fun hh => ?_
  rw [bytesOfNat_kindSet hh]
  rfl

/-- EVENT_READ on a port with a session (R155). -/
theorem eventReadServer_eq {s : State} {p : PortId} {ses : Session} (hs : s.session p = some ses) :
    eventReadServer p [] s =
      .ok (bytesOfNat 2 ses.mask.toNat ++ [byteOfFlag ses.attention] ++ recordBytes ses.records (BitVec.allOnes 11), s) := by
  rw [eventReadServer, sessionRequest_of_some (len := 0) (payload := []) hs rfl, eventReadBody, EventRecords.block_eq]

/-- EVENT_ACK on a port with a session: the records as they stood, and the attention after they are cleared (R156). -/
theorem eventAckServer_eq {s : State} {p : PortId} {ses : Session} (hs : s.session p = some ses) (h l : Byte) :
    eventAckServer p [h, l] s =
      let kinds : KindSet := BitVec.ofNat 11 (h.toNat * 256 + l.toNat)
      let new := { ses with records := acknowledged ses.records kinds }
      if 7 < h.toNat then .error .badValue
      else .ok ([h, l] ++ [byteOfFlag new.attention] ++ recordBytes ses.records kinds, s.setSession p (some new)) := by
  rw [eventAckServer, sessionRequest_of_some (len := 2) (payload := [h, l]) hs rfl, eventAckBody, kindSetField_eq,
    ite_error_bind, ok_bind]
  refine ite_congr rfl (fun _ => rfl) fun hh => ?_
  rw [bytesOfNat_kindSet hh, EventRecords.clear_eq, EventRecords.block_eq]
  rfl

/-- Settles O58: the kind set checked, then the session set anew, or the report alone. -/
theorem eventRequestsReportMaskAndClear : Obligations.EventRequestsReportMaskAndClear := by
  intro s p tag ses hs
  have hs' : (s.taken p).session p = some ses := hs
  refine ⟨fun h l => ⟨fun hn => ⟨_, rfl, ?_⟩, fun hn => ⟨_, rfl, ?_⟩⟩, fun hn => ⟨_, rfl, ?_⟩⟩
  · refine refused_ite hn (eventMaskServer_eq hs' h l) fun _ server => ?_
    rw [attentionByte_eq] at server
    exact answered_newSession hn (by decide) server rfl (State.setSession_session _ p _)
  · refine refused_ite hn (eventAckServer_eq hs' h l) fun _ server => ?_
    rw [attentionByte_eq] at server
    exact answered_newSession hn (by decide) server rfl (State.setSession_session _ p _)
  · have server := eventReadServer_eq hs'
    rw [attentionByte_eq] at server
    exact onlyAnswered_of_ok hn (by decide) server

end Sys2Proof.Machine

/-! ## What the requests leave of the ports and the executor's record (R172) -/

namespace Sys2Proof.Machine

/-- From `s` to `t` no port and nothing of the executor's record has changed. -/
structure SameQueues (s t : State) : Prop where
  ports : t.ports = s.ports
  executor : t.executor = s.executor

@[refl] theorem SameQueues.refl (s : State) : SameQueues s s := ⟨rfl, rfl⟩

theorem SameQueues.trans (s t u : State) (h : SameQueues s t) (k : SameQueues t u) : SameQueues s u :=
  ⟨k.ports.trans h.ports, k.executor.trans h.executor⟩

/-! ### What the frames say of the queues -/

theorem OnlySessions.sameQueues {s t : State} (h : OnlySessions s t) : SameQueues s t := ⟨by rw [h], by rw [h]⟩
theorem OnlyLog.sameQueues {s t : State} (h : OnlyLog s t) : SameQueues s t := ⟨by rw [h], by rw [h]⟩
theorem OnlyGates.sameQueues {s t : State} (h : OnlyGates s t) : SameQueues s t := ⟨by rw [h], by rw [h]⟩
theorem OnlyMet.sameQueues {s t : State} (h : OnlyMet s t) : SameQueues s t := ⟨by rw [h], by rw [h]⟩
theorem OnlyEvents.sameQueues {s t : State} (h : OnlyEvents s t) : SameQueues s t := ⟨by rw [h], by rw [h]⟩
theorem OnlyFiring.sameQueues {s t : State} (h : OnlyFiring s t) : SameQueues s t := ⟨by rw [h], by rw [h]⟩
theorem OnlyOffer.sameQueues {s t : State} (h : OnlyOffer s t) : SameQueues s t := ⟨by rw [h], by rw [h]⟩
theorem OnlyAxis.sameQueues {s t : State} (h : OnlyAxis s t) : SameQueues s t := ⟨by rw [h], by rw [h]⟩
theorem OnlyPark.sameQueues {s t : State} (h : OnlyPark s t) : SameQueues s t := ⟨by rw [h], by rw [h]⟩
theorem OnlyLines.sameQueues {s t : State} (h : OnlyLines s t) : SameQueues s t := ⟨by rw [h], by rw [h]⟩
theorem OnlyEdge.sameQueues {s t : State} (h : OnlyEdge s t) : SameQueues s t := ⟨by rw [h], by rw [h]⟩
theorem OnlyClose.sameQueues {s t : State} (h : OnlyClose s t) : SameQueues s t := ⟨by rw [h], by rw [h]⟩

/-- An axis set anew, which then offers its count. -/
theorem State.setAxis_offer_sameQueues (s : State) (n : AxisId) (x : Axis) (kind : OfferKind) (entries : List EntryId) :
    SameQueues s ((s.setAxis n x).offer n kind entries) :=
  SameQueues.trans _ _ _ (s.setAxis_only n x).sameQueues (State.offer_only _ n kind entries).sameQueues

/-! ### The servers -/

/-- A request that leaves the ports and the executor's record to its taking and its answer. -/
def Server.SameQueues (serve : Server) : Prop := ∀ p payload s, Leaves (Machine.SameQueues s) (serve p payload s)

/-- A request that only reports changes nothing. -/
theorem leaves_report_sameQueues {s : State} (payload : List Byte) : Leaves (SameQueues s) (.ok (payload, s)) :=
  leaves_ok (SameQueues.refl s)

theorem openServer_sameQueues : Server.SameQueues openServer := fun _ _ _ =>
  leaves_bind fun _ _ => leaves_bind fun _ _ => leaves_bind fun _ _ => leaves_bind fun _ _ => leaves_ok ⟨rfl, rfl⟩

theorem closeServer_sameQueues : Server.SameQueues closeServer := fun p _ s =>
  leaves_sessionRequest fun _ _ _ => leaves_ok ⟨s.closeSession_ports p, s.closeSession_executor p⟩

theorem pingServer_sameQueues : Server.SameQueues pingServer := fun _ _ _ =>
  leaves_sessionRequest fun _ _ _ => leaves_report_sameQueues _

theorem deviceInfoServer_sameQueues : Server.SameQueues deviceInfoServer := fun _ _ _ =>
  leaves_sessionRequest fun _ _ _ => leaves_report_sameQueues _

theorem State.resetBlocks_sameQueues (s : State) : SameQueues s s.resetBlocks := ⟨rfl, rfl⟩

theorem deviceResetServer_sameQueues : Server.SameQueues deviceResetServer := fun _ _ s =>
  leaves_sessionRequest fun _ _ _ => leaves_bind fun _ _ =>
    leaves_ok (SameQueues.trans _ _ _ s.closeAll_only.sameQueues (State.resetBlocks_sameQueues _))

theorem claimServer_sameQueues : Server.SameQueues claimServer := fun p _ s =>
  leaves_sessionRequest fun _ _ _ => leaves_bind fun r _ => leaves_bind fun _ _ => by
    have claimed : SameQueues s (s.setOwner r (some p)) := ⟨rfl, rfl⟩
    split
    · exact leaves_ok claimed
    · split
      · exact leaves_report_sameQueues _
      · split
        · exact leaves_error _
        · split
          · exact leaves_ok (SameQueues.trans _ _ _ claimed (State.raiseTo_only _ _ _).sameQueues)
          · exact leaves_error _

theorem releaseServer_sameQueues : Server.SameQueues releaseServer := fun _ _ s =>
  leaves_sessionRequest fun _ _ _ => leaves_bind fun r _ => leaves_bind fun _ _ => leaves_ok (s.giveUp_only r).sameQueues

theorem whoOwnsServer_sameQueues : Server.SameQueues whoOwnsServer := fun _ _ _ =>
  leaves_sessionRequest fun _ _ _ => by
    unfold whoOwnsBody
    split
    · exact leaves_report_sameQueues _
    · exact leaves_bind fun _ _ => leaves_report_sameQueues _

theorem axisSetupServer_sameQueues : Server.SameQueues axisSetupServer := fun _ _ _ =>
  leaves_sessionRequest fun _ _ _ => leaves_bind fun _ _ => leaves_bind fun _ _ => leaves_bind fun _ _ =>
    leaves_bind fun _ _ => leaves_bind fun _ _ => leaves_ok ⟨rfl, rfl⟩

theorem axisSpanServer_sameQueues : Server.SameQueues axisSpanServer := fun _ _ s =>
  leaves_sessionRequest fun _ _ _ => leaves_bind fun n _ => leaves_bind fun _ _ => leaves_bind fun _ _ =>
    leaves_ok (s.setAxis_offer_sameQueues n _ _ _)

theorem axisPresetServer_sameQueues : Server.SameQueues axisPresetServer := fun _ _ s =>
  leaves_sessionRequest fun _ _ _ => leaves_bind fun n _ => leaves_bind fun _ _ => leaves_bind fun _ _ =>
    leaves_bind fun _ _ => leaves_ok (s.setAxis_offer_sameQueues n _ _ _)

theorem axisClearFaultServer_sameQueues : Server.SameQueues axisClearFaultServer := fun _ _ s =>
  leaves_sessionRequest fun _ _ _ => leaves_bind fun n _ => leaves_bind fun _ _ => leaves_bind fun _ _ =>
    leaves_bind fun _ _ => leaves_ok (s.setAxis_offer_sameQueues n _ _ _)

theorem axisReadServer_sameQueues : Server.SameQueues axisReadServer := fun _ _ _ =>
  leaves_sessionRequest fun _ _ _ => leaves_bind fun _ _ => leaves_bind fun _ _ => leaves_report_sameQueues _

theorem snapServer_sameQueues : Server.SameQueues snapServer := fun _ _ s =>
  leaves_sessionRequest fun _ _ _ => leaves_bind fun _ _ => leaves_bind fun _ _ => leaves_bind fun _ _ => by
    dsimp only
    split
    · exact leaves_ok (s.capture_only _).sameQueues
    · exact leaves_report_sameQueues _

theorem timeReadServer_sameQueues : Server.SameQueues timeReadServer := fun _ _ _ =>
  leaves_sessionRequest fun _ _ _ => leaves_report_sameQueues _

theorem alignArmServer_sameQueues : Server.SameQueues alignArmServer := fun _ _ _ =>
  leaves_sessionRequest fun _ _ _ => leaves_bind fun _ _ => leaves_bind fun _ _ => leaves_ok ⟨rfl, rfl⟩

theorem alignCancelServer_sameQueues : Server.SameQueues alignCancelServer := fun _ _ _ =>
  leaves_sessionRequest fun _ _ _ => leaves_bind fun _ _ => leaves_ok ⟨rfl, rfl⟩

theorem markSetupServer_sameQueues : Server.SameQueues markSetupServer := fun _ _ _ =>
  leaves_sessionRequest fun _ _ _ => leaves_bind fun _ _ => leaves_bind fun _ _ => leaves_bind fun _ _ =>
    leaves_ok ⟨rfl, rfl⟩

theorem markPulseServer_sameQueues : Server.SameQueues markPulseServer := fun _ _ _ =>
  leaves_sessionRequest fun _ _ _ => leaves_bind fun _ _ => leaves_ok ⟨rfl, rfl⟩

theorem trigSetupServer_sameQueues : Server.SameQueues trigSetupServer := fun _ _ s =>
  leaves_sessionRequest fun _ _ _ => leaves_bind fun c _ => leaves_bind fun _ _ => leaves_bind fun _ _ =>
    leaves_bind fun _ _ =>
      leaves_ok (SameQueues.trans _ _ _ (s.arrive_only _ _).sameQueues (State.setChannel_only _ c _).sameQueues)

theorem trigLineFilterServer_sameQueues : Server.SameQueues trigLineFilterServer := fun _ _ _ =>
  leaves_sessionRequest fun _ _ _ => leaves_bind fun _ _ => leaves_bind fun _ _ => leaves_ok ⟨rfl, rfl⟩

theorem trigArmServer_sameQueues : Server.SameQueues trigArmServer := fun _ _ _ =>
  leaves_sessionRequest fun _ _ _ => leaves_bind fun _ _ => leaves_bind fun _ _ => leaves_bind fun _ _ =>
    leaves_ok ⟨rfl, rfl⟩

theorem trigDisarmServer_sameQueues : Server.SameQueues trigDisarmServer := fun _ _ s =>
  leaves_sessionRequest fun _ _ _ => leaves_bind fun c _ => leaves_bind fun _ _ =>
    leaves_ok (SameQueues.trans _ _ _ (s.setChannel_only c _).sameQueues (State.raiseToOwner_if_only _ _ _ _).sameQueues)

theorem trigFireServer_sameQueues : Server.SameQueues trigFireServer := fun _ _ s =>
  leaves_sessionRequest fun _ _ _ => leaves_bind fun c _ => leaves_bind fun _ _ => leaves_bind fun _ _ =>
    leaves_ok (SameQueues.trans _ _ _ (s.fire_only c).sameQueues (State.handOver_only _ _).sameQueues)

theorem trigStatusServer_sameQueues : Server.SameQueues trigStatusServer := fun _ _ _ =>
  leaves_sessionRequest fun _ _ _ => leaves_bind fun _ _ => leaves_report_sameQueues _

theorem logSubscribeServer_sameQueues : Server.SameQueues logSubscribeServer := fun p _ s =>
  leaves_sessionRequest fun _ _ _ => leaves_bind fun _ _ => leaves_bind fun _ _ => leaves_bind fun _ _ =>
    leaves_ok (s.setReader_levelCheck_only p _).sameQueues

theorem logUnsubscribeServer_sameQueues : Server.SameQueues logUnsubscribeServer := fun p _ s =>
  leaves_sessionRequest fun _ _ _ => leaves_bind fun _ _ => leaves_ok (s.setReader_only p none).sameQueues

theorem logFetchServer_sameQueues : Server.SameQueues logFetchServer := fun _ _ _ =>
  leaves_sessionRequest fun _ _ _ => leaves_bind fun _ _ => leaves_bind fun _ _ => leaves_report_sameQueues _

theorem logReleaseServer_sameQueues : Server.SameQueues logReleaseServer := fun p _ s =>
  leaves_sessionRequest fun _ _ _ => leaves_bind fun _ _ => by
    dsimp only
    split
    · exact leaves_error _
    · exact leaves_report_sameQueues _
    · exact leaves_ok (s.setReader_levelCheck_only p _).sameQueues

theorem logStatusServer_sameQueues : Server.SameQueues logStatusServer := fun _ _ _ =>
  leaves_sessionRequest fun _ _ _ => by
    unfold logStatusBody
    dsimp only
    split <;> exact leaves_report_sameQueues _

theorem cmpSetupServer_sameQueues : Server.SameQueues cmpSetupServer := fun _ _ s =>
  leaves_sessionRequest fun _ _ _ => leaves_bind fun e _ => leaves_bind fun _ _ => leaves_bind fun _ _ =>
    leaves_bind fun _ _ => leaves_bind fun _ _ => leaves_bind fun _ _ => leaves_bind fun _ _ =>
      leaves_ok (s.replaceEntry_only e _).sameQueues

theorem cmpEnableServer_sameQueues : Server.SameQueues cmpEnableServer := fun _ _ s =>
  leaves_sessionRequest fun _ _ _ => leaves_bind fun e _ => leaves_bind fun _ _ =>
    leaves_ok (s.replaceEntry_only e _).sameQueues

theorem cmpDisableServer_sameQueues : Server.SameQueues cmpDisableServer := fun _ _ s =>
  leaves_sessionRequest fun _ _ _ => leaves_bind fun e _ => leaves_bind fun _ _ =>
    leaves_ok (s.replaceEntry_only e _).sameQueues

theorem cmpStatusServer_sameQueues : Server.SameQueues cmpStatusServer := fun _ _ _ =>
  leaves_sessionRequest fun _ _ _ => leaves_bind fun _ _ => leaves_report_sameQueues _

theorem gateSetupServer_sameQueues : Server.SameQueues gateSetupServer := fun _ _ _ =>
  leaves_sessionRequest fun _ _ _ => leaves_bind fun _ _ => leaves_bind fun _ _ => leaves_bind fun _ _ =>
    leaves_bind fun _ _ => leaves_bind fun _ _ => leaves_bind fun _ _ => leaves_ok ⟨rfl, rfl⟩

theorem gateSetServer_sameQueues : Server.SameQueues gateSetServer := fun _ _ _ =>
  leaves_sessionRequest fun _ _ _ => leaves_bind fun _ _ => leaves_bind fun _ _ => leaves_bind fun _ _ =>
    leaves_ok ⟨rfl, rfl⟩

theorem gateStatusServer_sameQueues : Server.SameQueues gateStatusServer := fun _ _ _ =>
  leaves_sessionRequest fun _ _ _ => leaves_bind fun _ _ => leaves_report_sameQueues _

theorem eventMaskServer_sameQueues : Server.SameQueues eventMaskServer := fun _ _ _ =>
  leaves_sessionRequest fun _ _ _ => leaves_bind fun _ _ => leaves_ok ⟨rfl, rfl⟩

theorem eventReadServer_sameQueues : Server.SameQueues eventReadServer := fun _ _ _ =>
  leaves_sessionRequest fun _ _ _ => leaves_report_sameQueues _

theorem eventAckServer_sameQueues : Server.SameQueues eventAckServer := fun _ _ _ =>
  leaves_sessionRequest fun _ _ _ => leaves_bind fun _ _ => leaves_ok ⟨rfl, rfl⟩

/-- Every request of the table leaves the ports and the executor's record. -/
theorem requestTable_sameQueues : ∀ e ∈ requestTable, Server.SameQueues e.2 := by
  simp only [requestTable, List.forall_mem_cons]
  exact ⟨openServer_sameQueues, closeServer_sameQueues, pingServer_sameQueues, deviceInfoServer_sameQueues,
    deviceResetServer_sameQueues, claimServer_sameQueues, releaseServer_sameQueues, whoOwnsServer_sameQueues,
    axisSetupServer_sameQueues, axisSpanServer_sameQueues, axisPresetServer_sameQueues, axisClearFaultServer_sameQueues,
    axisReadServer_sameQueues, snapServer_sameQueues, timeReadServer_sameQueues, alignArmServer_sameQueues,
    alignCancelServer_sameQueues, markSetupServer_sameQueues, markPulseServer_sameQueues, trigSetupServer_sameQueues,
    trigLineFilterServer_sameQueues, trigArmServer_sameQueues, trigDisarmServer_sameQueues, trigFireServer_sameQueues,
    trigStatusServer_sameQueues, logSubscribeServer_sameQueues, logUnsubscribeServer_sameQueues,
    logFetchServer_sameQueues, logReleaseServer_sameQueues, logStatusServer_sameQueues, cmpSetupServer_sameQueues,
    cmpEnableServer_sameQueues, cmpDisableServer_sameQueues, cmpStatusServer_sameQueues, gateSetupServer_sameQueues,
    gateSetServer_sameQueues, gateStatusServer_sameQueues, eventMaskServer_sameQueues, eventReadServer_sameQueues,
    eventAckServer_sameQueues, List.forall_mem_nil _⟩

theorem serverOf_sameQueues (code : Byte) : Server.SameQueues (serverOf code) := by
  rcases serverOf_mem code with ⟨e, he, h⟩ | h <;> rw [h]
  · exact requestTable_sameQueues e he
  · exact fun p payload s => leaves_unknownAnswer _ p payload s

/-- A request that is taken gets one response, on the queue of its port, and nothing else moves in the queues (R171, R172). -/
theorem executorTakes_answered {s : State} {p : PortId} {f : Frame} {serve : Server} (hn : s.nextRequest = some (p, f))
    (h : Server.SameQueues serve) : ∃ r, s.answered p r (executorTakes p f serve s) := by
  cases ha : serve p f.payload (s.taken p) with
  | error code =>
    rw [executorTakes_of_error hn ha]
    exact ⟨_, State.answered_deposit _ rfl rfl⟩
  | ok answer =>
    obtain ⟨payload, t⟩ := answer
    rw [executorTakes_of_ok hn ha]
    have same := h p f.payload _ payload t ha
    exact ⟨_, State.answered_deposit _ same.ports same.executor⟩

end Sys2Proof.Machine

/-! ## What a happening may do to the host ports (O16) -/

namespace Sys2Proof.Machine

/-! ### The moves of one port (R162 to R170) -/

/-- A port whose transaction, if any, has no chosen response, needs its queues to be short only. -/
theorem Port.ok_of_no_choice {q : Port} (hlen : q.outstanding ≤ 4)
    (h : ∀ t r, q.receive = .inTransaction t → t.chosen ≠ some r) : q.ok :=
  ⟨hlen, fun t r ht hr => absurd hr (h t r ht)⟩

/-- A port back in IDLE chooses nothing (R162). -/
theorem Port.ok.idle {q : Port} (h : q.ok) : Port.ok { q with receive := .idle } :=
  Port.ok_of_no_choice h.1 fun _ _ ht => nomatch ht

/-- A response takes the place of the request it answers, behind the chosen one (R170, R172). -/
theorem Port.ok.answered {q : Port} (h : q.ok) {w : Waiting} {rest : List Waiting} (hw : q.requests = w :: rest) (r : Response) :
    Port.ok { q with requests := q.requests.tail, responses := q.responses ++ [r] } := by
  obtain ⟨hlen, hhead⟩ := h
  refine ⟨?_, fun t v ht hv => ?_⟩
  · simp only [Port.outstanding, hw, List.tail_cons, List.length_append, List.length_cons, List.length_nil] at hlen ⊢
    omega
  · rw [List.head?_append, hhead t v ht hv]
    rfl

/-- A discard leaves no more outstanding than there were, and cuts the chosen response unless it is kept (R139, R170). -/
theorem Port.ok.discardQueues {q : Port} (h : q.ok) (kept begun : Nat) : (q.discardQueues kept begun).ok := by
  obtain ⟨hlen, hhead⟩ := h
  have short : (q.discardQueues kept begun).outstanding ≤ q.outstanding := by
    simp only [Port.outstanding, Port.discardQueues, List.length_nil, List.length_drop]
    omega
  refine ⟨short.trans hlen, fun t r ht hr => ?_⟩
  have receive := Port.discardQueues_receive (begun := begun) (Iff.rfl : q.responses.length ≤ kept ↔ _)
  rw [ht] at receive
  cases hq : q.receive with
  | blocked => rw [hq] at receive; cases receive
  | idle => rw [hq] at receive; cases receive
  | inTransaction tr =>
    rw [hq] at receive
    dsimp only at receive
    split at receive
    · next hk =>
      cases receive
      simpa [Port.discardQueues, Nat.sub_eq_zero_of_le hk] using hhead t r hq hr
    · cases receive
      cases hr

theorem Port.ok.expiredAt {q : Port} (h : q.ok) (begun : Nat) : (q.expiredAt begun).ok := h.discardQueues 0 begun

/-- The response chosen by a transaction is the head of the queue (R163). -/
theorem Port.ok.begun {q : Port} (h : q.ok) (b : StatusByte) :
    Port.ok { q with receive := .inTransaction { status := b, chosen := q.responses.head?, shown := false, incoming := [],
                                                 gone := none } } :=
  ⟨h.1, fun _ _ ht hr => by cases ht; exact hr⟩

/-- The status byte going out leaves the queues and the choice (R164). -/
theorem Port.ok.statusShown {q : Port} (h : q.ok) {t : Transaction} (hq : q.receive = .inTransaction t) (received : Byte) :
    Port.ok { q.clearShown t.status with
      receive := .inTransaction { t with shown := true, incoming := t.incoming ++ [received] } } :=
  ⟨h.1, fun _ r hu hr => by cases hu; exact h.2 t r hq hr⟩

/-- A response delivered leaves the queue, and is no longer chosen (R165). -/
theorem Port.ok.delivered {q : Port} (h : q.ok) (t : Transaction) (r : Response) : (q.delivered t r).ok := by
  refine Port.ok_of_no_choice ?_ fun u v hu hv => by cases hu; cases hv
  have hlen : q.requests.length + q.responses.length ≤ 4 := h.1
  simp only [Port.outstanding, Port.delivered, List.length_tail]
  omega

/-- What the clocked bytes have brought about takes at most the head response (log entry 2). -/
theorem Port.settle_outstanding_le (q : Port) (t : Transaction) (incoming : List Byte) :
    (q.settle t incoming).outstanding ≤ q.outstanding := by
  have shown : (if !t.shown ∧ incoming ≠ [] then q.clearShown t.status else q).outstanding = q.outstanding := by
    split <;> rfl
  unfold Port.settle
  dsimp only
  generalize (if !t.shown ∧ incoming ≠ [] then q.clearShown t.status else q) = u at shown ⊢
  split
  · exact shown.le
  · split
    · simp only [Port.outstanding, List.length_tail] at shown ⊢
      omega
    · exact shown.le

/-- At the end of its transaction a port has no more outstanding, and chooses nothing (R163). -/
theorem Port.ended_ok {q : Port} (h : q.ok) {t : Transaction} (hq : q.receive = .inTransaction t) (incoming : List Byte) :
    (q.ended incoming).ok := by
  have ended : q.ended incoming = { q.settle t incoming with receive := .idle } := by rw [Port.ended, hq]
  rw [ended]
  exact Port.ok_of_no_choice ((q.settle_outstanding_le t incoming).trans h.1) fun _ _ ht => nomatch ht

/-- A frame joins the queue where there is room, or sets REFUSED (R168). -/
theorem Port.ok.accept {q : Port} (h : q.ok) (f : Frame) : (q.accept f).ok := by
  unfold Port.accept
  split
  · next hroom =>
    refine ⟨?_, h.2⟩
    simp only [Port.outstanding, Config.maxOutstanding, List.length_append, List.length_singleton] at hroom ⊢
    omega
  · exact h

/-- A tick's beginning marks the requests and closes the level of a TIME_READ: no queue changes its length (R122, R171). -/
theorem Port.ok.tick {q : Port} (h : q.ok) (level : Level) : (q.tick level).ok := by
  refine ⟨?_, fun t r ht hr => Port.withLevel_chosen h.2 ht hr⟩
  simpa [Port.outstanding, Port.tick] using h.1

/-! ### The operations on the ports -/

/-- From `s` to `t` no port has left what R162 states of it. -/
def KeepsPorts (s t : State) : Prop := ∀ p, (s.port p).ok → (t.port p).ok

namespace KeepsPorts

@[refl] theorem refl (s : State) : KeepsPorts s s := fun _ => id

theorem trans (s t u : State) (h : KeepsPorts s t) (k : KeepsPorts t u) : KeepsPorts s u := fun p => k p ∘ h p

/-- A fold of operations that keep the ports keeps them. -/
theorem foldl {α : Type} (f : State → α → State) (h : ∀ t x, KeepsPorts t (f t x)) (l : List α) (s : State) :
    KeepsPorts s (l.foldl f s) := foldl_reaches KeepsPorts refl trans f h l s

/-- A choice between operations that keep the ports keeps them. -/
theorem ite {b : Prop} [Decidable b] {s t u : State} (h : KeepsPorts s t) (k : KeepsPorts s u) :
    KeepsPorts s (if b then t else u) := by
  split
  · exact h
  · exact k

/-- An operation that leaves the ports as they are. -/
theorem of_ports {s t : State} (h : t.ports = s.ports) : KeepsPorts s t := fun p hp => by
  rwa [State.port, h]

end KeepsPorts

theorem SameQueues.keepsPorts {s t : State} (h : SameQueues s t) : KeepsPorts s t := .of_ports h.ports

theorem State.setPort_keepsPorts {s : State} {p : PortId} {q : Port} (h : (s.port p).ok → q.ok) :
    KeepsPorts s (s.setPort p q) := fun k hk => by
  rw [State.setPort_port]
  split
  · next e => exact h (e ▸ hk)
  · exact hk

theorem State.unblock_keepsPorts (s : State) (p : PortId) : KeepsPorts s (s.unblock p) := by
  unfold State.unblock
  dsimp only
  split
  · exact State.setPort_keepsPorts Port.ok.idle
  · exact KeepsPorts.refl s
  · exact KeepsPorts.refl s

theorem State.beginTransaction_keepsPorts (s : State) (p : PortId) : KeepsPorts s (s.beginTransaction p) := by
  unfold State.beginTransaction
  dsimp only
  split
  · exact State.setPort_keepsPorts fun h => h.begun _
  · exact KeepsPorts.refl s
  · exact KeepsPorts.refl s

theorem State.showStatus_keepsPorts (s : State) (p : PortId) (received : Byte) : KeepsPorts s (s.showStatus p received) := by
  unfold State.showStatus
  dsimp only
  split
  · exact KeepsPorts.refl s
  · exact KeepsPorts.refl s
  · next hq => exact KeepsPorts.ite (KeepsPorts.refl s) (State.setPort_keepsPorts fun h => h.statusShown hq received)

theorem State.deliverResponse_keepsPorts (s : State) (p : PortId) (received : List Byte) :
    KeepsPorts s (s.deliverResponse p received) := by
  unfold State.deliverResponse
  dsimp only
  split
  · exact KeepsPorts.refl s
  · exact KeepsPorts.refl s
  · split
    · exact KeepsPorts.refl s
    · exact KeepsPorts.ite (State.setPort_keepsPorts fun h => h.delivered _ _) (KeepsPorts.refl s)

theorem State.expire_keepsPorts (s : State) (p : PortId) : KeepsPorts s (s.expire p) := fun k hk => by
  rw [State.expire_port]
  split
  · next e => exact (e ▸ hk).expiredAt _
  · exact hk

theorem State.takeExpiry_keepsPorts (s : State) (p : PortId) : KeepsPorts s (s.takeExpiry p) :=
  KeepsPorts.ite (s.expire_keepsPorts p) (KeepsPorts.refl s)

theorem State.expireLast_keepsPorts (s : State) (p : PortId) : KeepsPorts s (s.expireLast p) :=
  KeepsPorts.ite (s.expire_keepsPorts p) (KeepsPorts.refl s)

/-- An expiry taken before a frame does not end the transaction that brings the frame, but leaves it no response (R139, R170). -/
theorem State.beforeFrame_receive {s : State} {p : PortId} {t : Transaction} (h : (s.port p).receive = .inTransaction t) :
    ∃ u, ((s.beforeFrame p).port p).receive = .inTransaction u ∧ u.status = t.status ∧ u.shown = t.shown ∧
      (u.chosen = t.chosen ∨ ((s.beforeFrame p).port p).responses = []) := by
  unfold State.beforeFrame
  split
  · have receive := Port.discardQueues_receive (q := s.port p) (begun := Config.begunBytes s.discards)
      (Iff.rfl : (s.port p).responses.length ≤ 0 ↔ _)
    rw [h] at receive
    dsimp only at receive
    rw [State.expire_port, if_pos rfl]
    have emptied : ((s.port p).expiredAt (Config.begunBytes s.discards)).responses = [] := List.drop_length
    split at receive <;> exact ⟨_, receive, rfl, rfl, .inr emptied⟩
  · exact ⟨t, h, rfl, rfl, .inl rfl⟩

theorem State.endTransaction_keepsPorts (s : State) (p : PortId) (received : List Byte) :
    KeepsPorts s (s.endTransaction p received) := by
  unfold State.endTransaction
  dsimp only
  split
  · exact KeepsPorts.refl s
  · exact KeepsPorts.refl s
  · next t ht =>
    split
    · exact State.setPort_keepsPorts fun h => Port.ended_ok h ht _
    · exact State.setPort_keepsPorts fun h => Port.ended_ok h ht _
    · next f _ =>
      obtain ⟨u, hu, -⟩ := State.beforeFrame_receive ht
      have before : KeepsPorts s (s.beforeFrame p) := KeepsPorts.ite (s.expire_keepsPorts p) (KeepsPorts.refl s)
      refine KeepsPorts.trans _ _ _ before (KeepsPorts.trans _ _ _ (State.setPort_keepsPorts fun h => ?_)
        (State.reloadTimer_only _ p).sameQueues.keepsPorts)
      exact (Port.ended_ok h hu _).accept f

theorem State.discardAll_keepsPorts (s : State) (p : PortId) : KeepsPorts s (s.discardAll p) := fun q hq => by
  rw [State.discardAll_port]
  exact hq.discardQueues _ _

theorem State.beginTick_keepsPorts (s : State) : KeepsPorts s s.beginTick := fun p hp => by
  rw [State.beginTick_port]
  exact hp.tick _

theorem State.pinReset_keepsPorts (s : State) : KeepsPorts s s.pinReset := fun p _ =>
  (congrArg Port.ok (State.reset_port p)).mpr Port.reset_ok

end Sys2Proof.Machine

/-! ## Every step keeps the ports (O16) -/

namespace Sys2Proof.Machine

/-! ### The executor (R171, R172) -/

/-- A request that is taken leaves its queue as its response joins the other one. -/
theorem executorTakes_keepsPorts {serve : Server} (h : Server.SameQueues serve) (p : PortId) (f : Frame) (s : State) :
    KeepsPorts s (executorTakes p f serve s) := by
  by_cases hn : s.nextRequest = some (p, f)
  · obtain ⟨-, rest, hw⟩ := State.nextRequest_some hn
    obtain ⟨r, own, others, -⟩ := executorTakes_answered hn h
    intro q hq
    by_cases e : q = p
    · subst e
      rw [own]
      exact hq.answered hw r
    · rwa [others q e]
  · rw [executorTakes_of_not_next serve hn]

theorem State.takeReset_keepsPorts (s : State) (p : PortId) (f : Frame) : KeepsPorts s (s.takeReset p f) := by
  have taken := executorTakes_keepsPorts deviceResetServer_sameQueues p f
  exact KeepsPorts.ite
    (KeepsPorts.trans _ _ _ (KeepsPorts.trans _ _ _ s.allReachLog_only.sameQueues.keepsPorts (taken _))
      (State.discardAll_keepsPorts _ p))
    (taken s)

theorem State.takeNextRequest_keepsPorts (s : State) : KeepsPorts s s.takeNextRequest := by
  cases h : s.nextRequest with
  | none => rw [State.takeNextRequest_of_none h]
  | some request =>
    rw [State.takeNextRequest_of_some h]
    exact KeepsPorts.ite (s.takeReset_keepsPorts _ _) (executorTakes_keepsPorts (serverOf_sameQueues _) _ _ s)

/-! ### The tick (log entry 2) -/

/-- The field side of the end of a tick does not reach the ports. -/
theorem State.endFieldSide_sameQueues (s : State) : SameQueues s s.endFieldSide := by
  have axes := SameQueues.trans _ _ _ s.takeMarkPulseEnd_only.sameQueues (State.sampleAxesLeft_only _).sameQueues
  have lines := SameQueues.trans _ _ _ axes (State.sampleLinesLeft_only _).sameQueues
  have bursts := SameQueues.trans _ _ _ lines (State.burstStepsLeft_only _).sameQueues
  have gates := SameQueues.trans _ _ _ bursts (State.gatePulseEndsLeft_only _).sameQueues
  exact SameQueues.trans _ _ _ gates (State.allReachLog_only _).sameQueues

theorem State.endPorts_keepsPorts (s : State) : KeepsPorts s s.endPorts := by
  have expired := KeepsPorts.foldl _ State.takeExpiry_keepsPorts allPorts s
  have taken := KeepsPorts.trans _ _ _ expired (State.takeNextRequest_keepsPorts _)
  have last := KeepsPorts.trans _ _ _ taken (KeepsPorts.foldl _ State.expireLast_keepsPorts allPorts _)
  exact KeepsPorts.trans _ _ _ last (State.takeNextRequest_keepsPorts _)

theorem State.finishTick_keepsPorts (s : State) : KeepsPorts s s.finishTick := by
  have ports := KeepsPorts.trans _ _ _ s.endFieldSide_sameQueues.keepsPorts (State.endPorts_keepsPorts _)
  have sampled := KeepsPorts.trans _ _ _ ports (State.sampleMarkLeft_only _).sameQueues.keepsPorts
  exact KeepsPorts.trans _ _ _ sampled (State.allReachLog_only _).sameQueues.keepsPorts

/-! ### The step -/

/-- A happening that does not reach the ports, and then brings captures to the log. -/
theorem SameQueues.reachLog {s t : State} (h : SameQueues s t) (order : LogOrder) : SameQueues s (t.reachLog order) :=
  trans _ _ _ h (t.reachLog_only order).sameQueues

/-- A happening that is no request keeps the ports. -/
theorem exec_keepsPorts_of_happening {c : Instr} {s t : State} (hc : requestOf c = none) (ht : exec c s = .next t) :
    KeepsPorts s t := by
  cases c with
  | pinReset => cases ht; exact s.pinReset_keepsPorts
  | portUnblock p => cases ht; exact s.unblock_keepsPorts p
  | transactionBegin p => cases ht; exact s.beginTransaction_keepsPorts p
  | statusByteShifted p received => cases ht; exact s.showStatus_keepsPorts p received
  | responseDelivered p received => cases ht; exact s.deliverResponse_keepsPorts p received
  | transactionEnd p received => cases ht; exact s.endTransaction_keepsPorts p received
  | sessionExpiry p => cases ht; exact s.takeExpiry_keepsPorts p
  | axisLevelChange n input => cases ht; exact ((s.showAxis_only n input).sameQueues.reachLog _).keepsPorts
  | gatePulseEnd g => cases ht; exact (s.takeGatePulseEnd_only g).sameQueues.keepsPorts
  | trigLevelChange l raw channels => cases ht; exact ((s.showTrigLine_only l raw _).sameQueues.reachLog _).keepsPorts
  | burstStep step => cases ht; exact ((s.takeBurstStep_only step.channel).sameQueues.reachLog _).keepsPorts
  | markPulseEnd => cases ht; exact s.takeMarkPulseEnd_only.sameQueues.keepsPorts
  | recognisedEdge events log => cases ht; exact ((s.takeRecognisedEdge_only events).sameQueues.reachLog _).keepsPorts
  | recognizerRearm => cases ht; exact s.takeRearm_only.sameQueues.keepsPorts
  | markLineChange outside => cases ht; exact KeepsPorts.refl s
  | tickCountAdvance =>
    have he : s.finishTick.beginTick = t := Host.Outcome.next.inj ht
    rw [← he]
    exact KeepsPorts.trans _ _ _ s.finishTick_keepsPorts (State.beginTick_keepsPorts _)
  | _ => cases hc

theorem exec_keepsPorts {c : Instr} {s t : State} (ht : exec c s = .next t) : KeepsPorts s t := by
  cases hc : requestOf c with
  | none => exact exec_keepsPorts_of_happening hc ht
  | some request =>
    rcases exec_request_cases hc s with he | he <;> rw [he] at ht <;> cases ht
    · exact KeepsPorts.refl s
    · exact s.takeNextRequest_keepsPorts

/-- Settles O16: a response comes only in the place of its request, a frame only where there is room, and the head response leaves
only when its transaction no longer chooses it. -/
theorem stepKeepsPortsWithinFour : Obligations.StepKeepsPortsWithinFour := by
  intro s t h ht p
  unfold step at ht
  split at ht
  · cases ht
    exact h p
  · next c rest _ => exact exec_keepsPorts (s := { s with pending := rest }) ht p (h p)

end Sys2Proof.Machine

/-! ## Every command completes and keeps the queue of commands (O2) -/

namespace Sys2Proof.Machine

theorem OnlySessions.pending {s t : State} (h : OnlySessions s t) : t.pending = s.pending := by rw [h]
theorem OnlyAxis.pending {s t : State} (h : OnlyAxis s t) : t.pending = s.pending := by rw [h]
theorem OnlyLines.pending {s t : State} (h : OnlyLines s t) : t.pending = s.pending := by rw [h]
theorem OnlyEdge.pending {s t : State} (h : OnlyEdge s t) : t.pending = s.pending := by rw [h]
theorem OnlyOffer.pending {s t : State} (h : OnlyOffer s t) : t.pending = s.pending := by rw [h]
theorem OnlyPorts.pending {s t : State} (h : OnlyPorts s t) : t.pending = s.pending := by rw [h]

theorem State.reachLog_pending (s : State) (order : LogOrder) : (s.reachLog order).pending = s.pending :=
  (s.arrive_withinTick _ _).pending

theorem State.endTransaction_pending (s : State) (p : PortId) (received : List Byte) :
    (s.endTransaction p received).pending = s.pending := by
  have before : (s.beforeFrame p).pending = s.pending :=
    (WithinTick.ite (s.expire_withinTick p) (WithinTick.refl s) : WithinTick s (s.beforeFrame p)).pending
  unfold State.endTransaction
  dsimp only
  split
  · rfl
  · rfl
  · split
    · rfl
    · rfl
    · exact (State.reloadTimer_only _ p).pending.trans before

/-- A happening that is no request completes, and keeps the commands that wait. -/
theorem exec_happening_completes {c : Instr} (hc : requestOf c = none) (s : State) :
    ∃ t, exec c s = .next t ∧ t.pending = s.pending := by
  cases c with
  | pinReset => exact ⟨_, rfl, rfl⟩
  | portUnblock p => exact ⟨_, rfl, (s.unblock_only p).pending⟩
  | transactionBegin p => exact ⟨_, rfl, (s.beginTransaction_only p).pending⟩
  | statusByteShifted p received => exact ⟨_, rfl, (s.showStatus_only p received).pending⟩
  | responseDelivered p received => exact ⟨_, rfl, (s.deliverResponse_only p received).pending⟩
  | transactionEnd p received => exact ⟨_, rfl, s.endTransaction_pending p received⟩
  | sessionExpiry p => exact ⟨_, rfl, (s.takeExpiry_withinTick p).pending⟩
  | axisLevelChange n input => exact ⟨_, rfl, (State.reachLog_pending _ _).trans (s.showAxis_only n input).pending⟩
  | gatePulseEnd g => exact ⟨_, rfl, (s.takeGatePulseEnd_withinTick g).pending⟩
  | trigLevelChange l raw channels =>
    exact ⟨_, rfl, (State.reachLog_pending _ _).trans (s.showTrigLine_only l raw _).pending⟩
  | burstStep step => exact ⟨_, rfl, (State.reachLog_pending _ _).trans (s.takeBurstStep_withinTick step.channel).pending⟩
  | markPulseEnd => exact ⟨_, rfl, s.takeMarkPulseEnd_withinTick.pending⟩
  | recognisedEdge events log =>
    exact ⟨_, rfl, (State.reachLog_pending _ _).trans (s.takeRecognisedEdge_only events).pending⟩
  | recognizerRearm => exact ⟨_, rfl, s.takeRearm_only.pending⟩
  | markLineChange outside => exact ⟨_, rfl, rfl⟩
  | tickCountAdvance => exact ⟨_, rfl, s.finishTick.beginTick_pending.trans s.finishTick_pending⟩
  | _ => cases hc

/-- Settles O2: a request command is the taking of a request, or nothing; and no happening reaches the commands that wait. -/
theorem everyCommandCompletesAndKeepsTheQueue : Obligations.EveryCommandCompletesAndKeepsTheQueue := by
  intro c s
  cases hc : requestOf c with
  | none => exact exec_happening_completes hc s
  | some request =>
    rcases exec_request_cases hc s with he | he
    · exact ⟨s, he, rfl⟩
    · exact ⟨_, he, s.takeNextRequest_withinTick.pending⟩

end Sys2Proof.Machine

/-! ## The rotation of the executor (O19) -/

namespace Sys2Proof.Machine

/-! ### The search (R171) -/

theorem Port.waitingRequest_eq_some_iff (q : Port) (f : Frame) :
    q.waitingRequest = some f ↔ ∃ rest, q.requests = { frame := f, joinedNow := false } :: rest := by
  unfold Port.waitingRequest
  cases q.requests with
  | nil => simp
  | cons w rest =>
    obtain ⟨frame, joined⟩ := w
    cases joined <;> simp

theorem Port.waitingRequest_eq_none_iff (q : Port) :
    q.waitingRequest = none ↔ ∀ w rest, q.requests = w :: rest → w.joinedNow = true := by
  unfold Port.waitingRequest
  cases q.requests with
  | nil => simp
  | cons w rest => cases hj : w.joinedNow <;> simp [hj]

/-- The search stops at the first port whose oldest request did not join in this tick. -/
theorem State.searchRequest_ofFn_eq_some_iff {s : State} {p : PortId} {f : Frame} {n : Nat} {place : Fin n → PortId} :
    s.searchRequest (List.ofFn place) = some (p, f) ↔
      ∃ k, p = place k ∧ (s.port (place k)).waitingRequest = some f ∧
        ∀ j, j < k → (s.port (place j)).waitingRequest = none := by
  induction n with
  | zero => simp [State.searchRequest]
  | succ n ih =>
    rw [List.ofFn_succ, State.searchRequest, Fin.exists_fin_succ]
    cases hw : (s.port (place 0)).waitingRequest with
    | none =>
      dsimp only
      rw [ih]
      simp [hw, Fin.forall_fin_succ]
    | some g => simp [hw, Fin.forall_fin_succ, eq_comm]

/-- The search goes on from the port after the last one served, once around. -/
theorem portRotation_eq (last : PortId) : portRotation last = List.ofFn fun k : Fin 4 => last + 1 + k := by
  revert last
  decide

theorem State.nextRequest_eq_some_iff {s : State} {p : PortId} {f : Frame} :
    s.nextRequest = some (p, f) ↔
      s.executor.took = false ∧ s.searchRequest (portRotation s.executor.last) = some (p, f) ∧
        ¬(s.mark.sampled = .pulseEdge ∧ s.acceptsReset p f = true) := by
  refine ⟨fun h => ⟨(State.nextRequest_some h).1, State.searchRequest_of_nextRequest h, State.nextRequest_notBarred h⟩, ?_⟩
  rintro ⟨htook, hsearch, hbar⟩
  simp [State.nextRequest, htook, hsearch, hbar]

theorem State.acceptsReset_iff {s : State} {p : PortId} {f : Frame} :
    s.acceptsReset p f = true ↔
      f.command = codeDeviceReset ∧ f.payload = [] ∧ ∃ ses, s.session p = some ses ∧ ses.rank = 3 := by
  unfold State.acceptsReset
  cases s.session p <;> simp

/-! ### The taking -/

/-- A discard of all queues is no taking. -/
theorem State.discardAll_executor (s : State) (p : PortId) : (s.discardAll p).executor = s.executor := by
  rw [s.discardAll_eq]

/-- The port of the request that is taken is the last one served, and the tick has had its request (R171). -/
theorem State.takeNextRequest_executor {s : State} {p : PortId} {f : Frame} (h : s.nextRequest = some (p, f)) :
    s.takeNextRequest.executor = { last := p, took := true } := by
  have taken : ∀ {t : State} {serve : Server}, t.nextRequest = some (p, f) → Server.SameQueues serve →
      (executorTakes p f serve t).executor = { last := p, took := true } := fun ht hs => by
    obtain ⟨_, -, -, executor⟩ := executorTakes_answered ht hs
    exact executor
  rw [State.takeNextRequest_of_some h]
  split
  · unfold State.takeReset
    split
    · rw [State.discardAll_executor]
      exact taken (s.allReachLog_nextRequest.trans h) deviceResetServer_sameQueues
    · exact taken h deviceResetServer_sameQueues
  · exact taken h (serverOf_sameQueues f.command)

/-- A command that names a request which is not the next one changes nothing (log entry 1). -/
theorem exec_of_not_next {c : Instr} {p : PortId} {f : Frame} (hc : requestOf c = some (p, f)) {s : State}
    (hn : s.nextRequest ≠ some (p, f)) : exec c s = .next s := by
  by_cases hw : NamesItsRequest c
  · rw [exec_request_of_namesItsRequest hw hc, if_neg hn]
  · exact exec_of_not_namesItsRequest hw s

/-- Settles O19: the next request is the first that the search finds in its rotation, and its taking is recorded. -/
theorem executorTakesInRotation : Obligations.ExecutorTakesInRotation := by
  refine ⟨fun s p f => ?_, fun c s p f hc => ⟨exec_of_not_next hc, fun hn hw => ?_⟩⟩
  · rw [State.nextRequest_eq_some_iff, portRotation_eq, State.searchRequest_ofFn_eq_some_iff, State.acceptsReset_iff]
    simp only [Port.waitingRequest_eq_some_iff, Port.waitingRequest_eq_none_iff]
    refine and_congr_right fun _ => ⟨?_, ?_⟩
    · rintro ⟨⟨k, rfl, waits, before⟩, hbar⟩
      exact ⟨k, rfl, waits, before, hbar⟩
    · rintro ⟨k, rfl, waits, before, hbar⟩
      exact ⟨⟨k, rfl, waits, before⟩, hbar⟩
  · refine ⟨s.takeNextRequest, ?_, State.takeNextRequest_executor hn, s.takeNextRequest_nextRequest⟩
    rw [exec_request hw hc, if_pos hn]

end Sys2Proof.Machine

/-! ## The first three checks of every request (O20) -/

namespace Sys2Proof.Machine

/-- The servers of the table but that of OPEN check the session, then the payload length of section 10.4 (R173). -/
theorem requestTable_sessionRequest :
    ∀ e ∈ requestTable.tail, ∃ n body, payloadLength e.1 = some n ∧ e.2 = sessionRequest n body := by
  simp only [requestTable, List.tail_cons, List.forall_mem_cons]
  repeat' constructor
  nofun

theorem requestTable_cases {e : Byte × Server} (he : e ∈ requestTable) :
    e = (codeOpen, openServer) ∨ ∃ n body, payloadLength e.1 = some n ∧ e.2 = sessionRequest n body := by
  rcases List.mem_cons.mp (show e ∈ (codeOpen, openServer) :: requestTable.tail from he) with h | h
  · exact .inl h
  · exact .inr (requestTable_sessionRequest e h)

/-- The codes with a payload length are those of the table. -/
theorem payloadLength_eq_none_iff (code : Byte) : payloadLength code = none ↔ requestTable.lookup code = none := by
  have names : ∀ {α : Type} (l : List (Byte × α)), l.lookup code = none ↔ code ∉ l.map Prod.fst := fun l => by
    rw [List.lookup_eq_none_iff]
    simp only [bne_iff_ne, List.mem_map, not_exists, not_and]
    exact forall₂_congr fun _ _ => ne_comm
  rw [payloadLength, names, names, Tests.test_request_codes]
  rfl

/-- What serves a code: OPEN its own server, every other request one that checks session and length, and an unknown code the one
that refuses it (R173). -/
theorem serverOf_cases (code : Byte) :
    (code = codeOpen ∧ payloadLength code = some 3 ∧ serverOf code = openServer) ∨
      (∃ n body, payloadLength code = some n ∧ serverOf code = sessionRequest n body) ∨
      (payloadLength code = none ∧ serverOf code = unknownAnswer) := by
  cases hl : requestTable.lookup code with
  | none => exact .inr (.inr ⟨(payloadLength_eq_none_iff code).mpr hl, by rw [serverOf, hl]; rfl⟩)
  | some serve =>
    obtain ⟨l, r, he, -⟩ := List.lookup_eq_some_iff.mp hl
    have hs : serverOf code = serve := by rw [serverOf, hl]; rfl
    rcases requestTable_cases (e := (code, serve)) (by simp [he]) with h | ⟨n, body, hn, h⟩
    · cases h
      exact .inl ⟨rfl, rfl, hs⟩
    · exact .inr (.inl ⟨n, body, hn, hs.trans h⟩)

/-- Step 1: without a session every request but OPEN is refused (R173). -/
theorem serverOf_of_noSession {code : Byte} (hc : code ≠ codeOpen) {p : PortId} {s : State} (hs : s.session p = none)
    (payload : List Byte) : serverOf code p payload s = .error .noSession := by
  rcases serverOf_cases code with ⟨h, -, -⟩ | ⟨n, body, -, h⟩ | ⟨-, h⟩
  · exact absurd h hc
  · rw [h, sessionRequest_of_none payload hs]
  · rw [h, unknownAnswer, hs]

/-- Step 2: a code that names no request is refused (R173). -/
theorem serverOf_of_unknown {code : Byte} (hc : payloadLength code = none) {p : PortId} {s : State} (hs : s.session p ≠ none)
    (payload : List Byte) : serverOf code p payload s = .error .unknown := by
  obtain ⟨ses, hs⟩ := Option.ne_none_iff_exists'.mp hs
  rcases serverOf_cases code with ⟨-, h, -⟩ | ⟨n, body, h, -⟩ | ⟨-, h⟩
  · rw [hc] at h; cases h
  · rw [hc] at h; cases h
  · rw [h, unknownAnswer, hs]

/-- Step 3: a payload that is not of the request's length is refused (R173). -/
theorem serverOf_of_length {code : Byte} {n : Nat} (hc : payloadLength code = some n) {p : PortId} {s : State}
    (hs : code = codeOpen ∨ s.session p ≠ none) {payload : List Byte} (hl : payload.length ≠ n) :
    serverOf code p payload s = .error .badLength := by
  by_cases hopen : code = codeOpen
  · subst hopen
    cases hc
    rw [show serverOf codeOpen = openServer from rfl, openServer, decide_eq_false hl, require_false_bind]
  · obtain ⟨ses, hs⟩ := Option.ne_none_iff_exists'.mp (hs.resolve_left hopen)
    rcases serverOf_cases code with ⟨h, -, -⟩ | ⟨m, body, h, hserve⟩ | ⟨h, -⟩
    · exact absurd h hopen
    · cases hc.symm.trans h
      rw [hserve, sessionRequest_of_length hs hl]
    · cases hc.symm.trans h

/-- An accepted DEVICE_RESET passes its checks, so that a request whose server refuses it is none. -/
theorem State.acceptsReset_of_error {s : State} {p : PortId} {f : Frame} {result : ResultCode}
    (he : serverOf f.command p f.payload (s.taken p) = .error result) : s.acceptsReset p f = false := by
  by_contra h
  obtain ⟨hc, hp, ses, hs, hr⟩ := State.acceptsReset_iff.mp (Bool.not_eq_false _ ▸ h)
  have accepted := deviceResetServer_eq (s := s.taken p) hs
  rw [if_neg (not_not.mpr hr)] at accepted
  rw [hc, hp] at he
  exact absurd (he.symm.trans accepted) nofun

/-- A next request that its server refuses is answered with the code, and nothing else changes (R172). -/
theorem State.takeNextRequest_refused {s : State} {p : PortId} {f : Frame} {result : ResultCode}
    (hn : s.nextRequest = some (p, f)) (he : serverOf f.command p f.payload (s.taken p) = .error result) :
    s.refused p f.command f.tag result s.takeNextRequest := by
  rw [State.takeNextRequest_of_some hn]
  split
  · next hc =>
    have plain : s.takeReset p f = executorTakes p f (serverOf f.command) s := by
      rw [State.takeReset, if_neg fun h => Bool.false_ne_true ((State.acceptsReset_of_error he).symm.trans h.2), hc]
      rfl
    rw [plain]
    exact refused_of_error hn he
  · exact refused_of_error hn he

/-- Settles O20: the three checks, each by the server of the request's code. -/
theorem requestsAreValidatedStepsOneToThree : Obligations.RequestsAreValidatedStepsOneToThree := by
  intro c s p f hw hc hn
  refine ⟨s.takeNextRequest, ?_, fun hopen hs => ?_, fun hs hu => ?_, fun hs n hl hne => ?_⟩
  · rw [exec_request hw hc, if_pos hn]
  · exact State.takeNextRequest_refused hn (serverOf_of_noSession hopen (s := s.taken p) hs f.payload)
  · exact State.takeNextRequest_refused hn (serverOf_of_unknown hu (s := s.taken p) hs f.payload)
  · exact State.takeNextRequest_refused hn (serverOf_of_length hl (s := s.taken p) hs hne)

end Sys2Proof.Machine

/-! ## The status byte, the delivery, and the begin of a transaction (O22, O23, O24) -/

namespace Sys2Proof.Machine

/-! ### The begin of a transaction (R162, R163, R179, R180) -/

theorem State.unblock_eq (s : State) (p : PortId) :
    s.unblock p = if (s.port p).receive = .blocked then s.setPort p { s.port p with receive := .idle } else s := by
  unfold State.unblock
  cases h : (s.port p).receive <;> simp [h]

theorem State.beginTransaction_of_idle {s : State} {p : PortId} (h : (s.port p).receive = .idle) :
    s.beginTransaction p =
      s.setPort p
        { s.port p with
          receive := .inTransaction { status := s.statusByte p, chosen := (s.port p).responses.head?, shown := false,
                                      incoming := [], gone := none } } := by
  simp [State.beginTransaction, h]

theorem State.beginTransaction_of_not_idle {s : State} {p : PortId} (h : (s.port p).receive ≠ .idle) :
    s.beginTransaction p = s := by
  unfold State.beginTransaction
  cases hr : (s.port p).receive <;> simp_all

/-- A session asks for attention exactly when a kind of its mask has a count above 0 (R158). -/
theorem State.attention_iff (s : State) (p : PortId) :
    s.attention p = true ↔ ∃ ses k, s.session p = some ses ∧ inSet ses.mask k.index = true ∧ 0 < ses.records.count k := by
  unfold State.attention
  cases s.session p <;> simp [Session.attention]

theorem bitAt_eq (v : Bool) (place : Nat) : bitAt v place = 2 ^ place * v.toNat := by
  cases v <;> simp [bitAt]

/-- The bits of R180. -/
theorem StatusByte.toByte_eq (b : StatusByte) : b.toByte = byteOfNat (statusNumber b) := by
  simp only [StatusByte.toByte, statusNumber, bitAt_eq, Nat.reducePow]

/-- A transaction that has just begun gives its status byte, then the chosen response, then filler (R163, R179). -/
theorem Transaction.outByte_of_begun {b : StatusByte} {chosen : Option Response} {incoming : List Byte} {shown : Bool}
    (k : Nat) :
    let t : Transaction := { status := b, chosen := chosen, shown := shown, incoming := incoming, gone := none }
    t.outByte 0 = byteOfNat (statusNumber b) ∧
      t.outByte (k + 1) = (chosen.map fun r => r.bytes.getD k 0).getD 0 := by
  refine ⟨b.toByte_eq, ?_⟩
  cases chosen <;> rfl

/-- Settles O22: the moves of R162 and R163, with the bytes that a begun transaction gives. -/
theorem portUnblockAndTransactionBegin : Obligations.PortUnblockAndTransactionBegin := by
  refine ⟨fun s p => ⟨_, rfl, s.unblock_eq p⟩,
    fun s p => ⟨_, rfl, State.beginTransaction_of_not_idle, fun h => ⟨s.statusByte p, ?_⟩⟩, fun _ => rfl, rfl⟩
  have bytes := Transaction.outByte_of_begun (b := s.statusByte p) (chosen := (s.port p).responses.head?)
    (incoming := []) (shown := false)
  rw [State.beginTransaction_of_idle h]
  refine ⟨rfl, Option.isSome_iff_exists, rfl, rfl, rfl, rfl, s.attention_iff p, ?_, fun k => ?_⟩
  · rw [State.setPort_port_same]
    exact congrArg some (bytes 0).1
  · rw [State.setPort_port_same]
    exact congrArg some (bytes k).2

/-! ### The status byte (R164) -/

/-- Outside a transaction a port is BLOCKED or IDLE (R162). -/
theorem ReceiveState.blocked_or_idle {receive : ReceiveState} (h : ∀ t, receive ≠ .inTransaction t) :
    receive = .blocked ∨ receive = .idle := by
  cases receive with
  | blocked => exact .inl rfl
  | idle => exact .inr rfl
  | inTransaction t => exact absurd rfl (h t)

theorem State.showStatus_of_outside {s : State} {p : PortId} (h : ∀ t, (s.port p).receive ≠ .inTransaction t)
    (received : Byte) : s.showStatus p received = s := by
  rcases ReceiveState.blocked_or_idle h with hr | hr <;> simp only [State.showStatus, hr]

theorem State.showStatus_of_transaction {s : State} {p : PortId} {t : Transaction}
    (h : (s.port p).receive = .inTransaction t) (received : Byte) :
    s.showStatus p received =
      if t.shown then s
      else s.setPort p { (s.port p).clearShown t.status with
        receive := .inTransaction { t with shown := true, incoming := t.incoming ++ [received] } } := by
  simp only [State.showStatus, h]

/-- A flag carried set is cleared, another is left (R164). -/
theorem and_not_eq_ite (flag carried : Bool) : (flag && !carried) = if carried then false else flag := by
  cases carried <;> simp

theorem Port.clearShown_eq (q : Port) (b : StatusByte) :
    q.clearShown b =
      { q with
        expired := if b.expired then false else q.expired
        frameErr := if b.frameErr then false else q.frameErr
        refused := if b.refused then false else q.refused } := by
  simp only [Port.clearShown, and_not_eq_ite]

/-- Settles O23: only a status byte that has not gone out clears the flags it carried. -/
theorem statusByteClearsTheFlagsItCarried : Obligations.StatusByteClearsTheFlagsItCarried := by
  intro s p received
  refine ⟨_, rfl, fun h => State.showStatus_of_outside h received, fun t ht => ?_⟩
  rw [State.showStatus_of_transaction ht, Port.clearShown_eq]

/-! ### The delivery (R165) -/

/-- The status byte and a response frame are six bytes with the payload (R163, R179). -/
theorem Response.clocked_eq (r : Response) : r.clocked = 6 + r.payload.length := by
  simp only [Response.clocked, Response.bytes, List.length_append, List.length_cons, List.length_nil]
  omega

theorem State.deliverResponse_of_chosen {s : State} {p : PortId} {t : Transaction} {r : Response}
    (h : (s.port p).receive = .inTransaction t) (hr : t.chosen = some r) (received : List Byte) :
    s.deliverResponse p received =
      if t.shown = true ∧ (t.incoming ++ received).length = 6 + r.payload.length then
        s.setPort p ((s.port p).delivered { t with incoming := t.incoming ++ received } r)
      else s := by
  simp only [State.deliverResponse, h, hr, r.clocked_eq]

/-- Settles O24: a delivery needs a chosen response, its status byte out, and its last byte. -/
theorem deliveryRemovesTheHeadResponse : Obligations.DeliveryRemovesTheHeadResponse := by
  intro s p received
  refine ⟨_, rfl, fun h => ?_, fun t r ht hr hs hl => ?_⟩
  · cases hq : (s.port p).receive with
    | blocked => simp [State.deliverResponse, hq]
    | idle => simp [State.deliverResponse, hq]
    | inTransaction t =>
      cases hr : t.chosen with
      | none => simp [State.deliverResponse, hq, hr]
      | some r =>
        rw [State.deliverResponse_of_chosen hq hr, if_neg]
        rintro ⟨hs, hl⟩
        rcases h t r hq hr with hf | hne
        · exact Bool.false_ne_true (hf.symm.trans hs)
        · exact hne hl
  · rw [State.deliverResponse_of_chosen ht hr, if_pos ⟨hs, hl⟩]
    rfl

end Sys2Proof.Machine

/-! ## Frames and their CRC-8 (O21) -/

namespace Sys2Proof.Machine

/-! ### The CRC-8 (R167) -/

theorem crc8_append (l m : List Byte) : crc8 (l ++ m) = m.foldl crcByte (crc8 l) := List.foldl_append

/-- A register that takes its own value comes to 0. -/
theorem crcByte_self (c : Byte) : crcByte c c = 0 := by
  rw [crcByte, BitVec.xor_self]
  decide

theorem crc8_append_crc8 (bytes : List Byte) : crc8 (bytes ++ [crc8 bytes]) = 0 := by
  rw [crc8_append]
  exact crcByte_self _

theorem crc8_append_single (bytes : List Byte) (b : Byte) :
    crc8 (bytes ++ [b]) =
      Nat.iterate (fun c : Byte => if c.getLsbD 7 then (c <<< 1) ^^^ 7#8 else c <<< 1) 8 (crc8 bytes ^^^ b) := by
  rw [crc8_append]
  rfl

/-! ### The judging of a frame (R166, R167) -/

/-- The judging of bytes that reach the length field, read from their parts. -/
theorem judge_cons (c t l : Byte) (rest : List Byte) :
    judge (c :: t :: l :: rest) =
      if c = 0 then .noRequest
      else if 48 < l.toNat then .malformed
      else if rest.length ≤ l.toNat then .malformed
      else if rest.getD l.toNat 0 ≠ crc8 (c :: t :: l :: rest.take l.toNat) then .malformed
      else .valid { command := c, tag := t, payload := rest.take l.toNat } := by
  have len : natAt (c :: t :: l :: rest) 2 1 = l.toNat := natAt_one _ _ _ rfl
  have check : byteAt (c :: t :: l :: rest) (l.toNat + 3) = rest.getD l.toNat 0 := by simp [byteAt]
  have short : (c :: t :: l :: rest).length < l.toNat + 4 ↔ rest.length ≤ l.toNat := by
    simp only [List.length_cons]
    omega
  have noRequest : (c :: t :: l :: rest = [] ∨ byteAt (c :: t :: l :: rest) 0 = noRequestCode) ↔ c = 0 :=
    ⟨fun h => h.resolve_left nofun, .inr⟩
  have limit : Config.maxRequestPayload = 48 := rfl
  unfold judge
  dsimp only
  rw [len, check, limit]
  by_cases hc : c = 0
  · rw [if_pos (noRequest.mpr hc), if_pos hc]
  rw [if_neg (mt noRequest.mp hc), if_neg hc]
  by_cases hlong : 48 < l.toNat
  · rw [if_pos hlong, if_pos hlong, ite_self]
  rw [if_neg hlong, if_neg hlong]
  by_cases hshort : rest.length ≤ l.toNat
  · rw [if_pos (short.mpr hshort), if_pos hshort, ite_self]
  have whole : ¬(c :: t :: l :: rest).length < 4 := by
    simp only [List.length_cons]
    omega
  rw [if_neg whole, if_neg (mt short.mp hshort), if_neg hshort]
  rfl

/-- Bytes that end before the length field carry no valid frame. -/
theorem judge_of_short {bytes : List Byte} (h : bytes.length < 3) (f : Frame) : judge bytes ≠ .valid f := by
  have few : bytes.length < 4 := by omega
  unfold judge
  dsimp only
  rw [if_pos few]
  split <;> nofun

theorem judge_eq_noRequest_iff (bytes : List Byte) : judge bytes = .noRequest ↔ bytes = [] ∨ bytes.head? = some 0 := by
  have first : (bytes = [] ∨ byteAt bytes 0 = noRequestCode) ↔ bytes = [] ∨ bytes.head? = some 0 := by
    cases bytes with
    | nil => simp
    | cons b rest => simp [byteAt, noRequestCode]
  rw [← first]
  unfold judge
  dsimp only
  split_ifs <;> simp_all

/-- The bytes of a frame, with the length field as a byte of its own (R179). -/
theorem Frame.bytes_eq (f : Frame) :
    f.bytes =
      f.command :: f.tag :: byteOfNat f.payload.length ::
        (f.payload ++ [crc8 (f.command :: f.tag :: byteOfNat f.payload.length :: f.payload)]) := rfl

theorem toNat_byteOfNat {n : Nat} (h : n ≤ 48) : (byteOfNat n).toNat = n := by
  rw [byteOfNat, BitVec.toNat_ofNat, Nat.mod_eq_of_lt (by omega)]

/-- What begins with a frame is judged that frame. -/
theorem judge_bytes_append {f : Frame} (hc : f.command ≠ 0) (hl : f.payload.length ≤ 48) (rest : List Byte) :
    judge (f.bytes ++ rest) = .valid f := by
  have len := toNat_byteOfNat hl
  rw [f.bytes_eq]
  simp only [List.cons_append, List.append_assoc]
  rw [judge_cons, len, if_neg hc, if_neg (by omega), if_neg (by simp), List.take_left, if_neg (by simp)]

/-- What is judged a frame begins with it. -/
theorem judge_valid_bytes {bytes : List Byte} {f : Frame} (h : judge bytes = .valid f) :
    f.command ≠ 0 ∧ f.payload.length ≤ 48 ∧ ∃ rest, bytes = f.bytes ++ rest := by
  match bytes with
  | [] => exact absurd h (judge_of_short (by simp) f)
  | [_] => exact absurd h (judge_of_short (by simp) f)
  | [_, _] => exact absurd h (judge_of_short (by simp) f)
  | c :: t :: l :: rest =>
    rw [judge_cons] at h
    split_ifs at h with hc hlong hshort hcheck
    cases h
    have len : (rest.take l.toNat).length = l.toNat := by rw [List.length_take]; omega
    refine ⟨hc, len.trans_le (Nat.not_lt.mp hlong), rest.drop (l.toNat + 1), ?_⟩
    have parts : rest = rest.take l.toNat ++ rest.getD l.toNat 0 :: rest.drop (l.toNat + 1) := by
      have inside : l.toNat < rest.length := Nat.not_le.mp hshort
      rw [List.getD_eq_getElem _ _ inside, ← List.drop_eq_getElem_cons inside, List.take_append_drop]
    rw [Frame.bytes_eq]
    dsimp only
    rw [len, byteOfNat_toNat, ← not_not.mp hcheck]
    simp only [List.cons_append, List.append_assoc, List.nil_append]
    rw [← parts]

/-- Settles O21: the frame is read back from its encoding, and the CRC-8 goes byte by byte. -/
theorem framesAreJudgedByLayoutAndCrc : Obligations.FramesAreJudgedByLayoutAndCrc := by
  refine ⟨fun bytes f => ⟨judge_valid_bytes, ?_⟩, judge_eq_noRequest_iff, fun f => ⟨_, rfl, crc8_append_crc8 _⟩,
    crc8_append_crc8, rfl, crc8_append_single, Tests.test_crc_check_value⟩
  rintro ⟨hc, hl, rest, rfl⟩
  exact judge_bytes_append hc hl rest

end Sys2Proof.Machine

/-! ## The end of a transaction (O25) -/

namespace Sys2Proof.Machine

/-- Port `q` once the transaction `t`, with the bytes `bytes` in, has ended: what the clocked bytes brought about without a
command of their own has taken place (R163 to R165, log entry 2). -/
def Port.leaving (q : Port) (t : Transaction) (bytes : List Byte) : Port :=
  { receive := .idle
    requests := q.requests
    responses := if ∃ r, t.chosen = some r ∧ 6 + r.payload.length ≤ bytes.length then q.responses.tail else q.responses
    expired := if (t.shown = false ∧ bytes ≠ []) ∧ t.status.expired = true then false else q.expired
    frameErr := if (t.shown = false ∧ bytes ≠ []) ∧ t.status.frameErr = true then false else q.frameErr
    refused := if (t.shown = false ∧ bytes ≠ []) ∧ t.status.refused = true then false else q.refused }

/-- The end of a transaction depends on its choice only while the queue holds a response. -/
theorem Port.leaving_congr {q : Port} {t u : Transaction} (hstatus : u.status = t.status) (hshown : u.shown = t.shown)
    (hchosen : u.chosen = t.chosen ∨ q.responses = []) (bytes : List Byte) : q.leaving u bytes = q.leaving t bytes := by
  unfold Port.leaving
  rw [hstatus, hshown]
  rcases hchosen with h | h
  · rw [h]
  · simp [h]

theorem Port.settle_of_none {t : Transaction} (h : t.chosen = none) (q : Port) (bytes : List Byte) :
    { q.settle t bytes with receive := .idle } = q.leaving t bytes := by
  unfold Port.settle
  rw [h]
  dsimp only
  by_cases hc : t.shown = false ∧ bytes ≠ [] <;> simp [hc, h, Port.leaving, Port.clearShown_eq]

theorem Port.settle_of_some {t : Transaction} {r : Response} (h : t.chosen = some r) (q : Port) (bytes : List Byte) :
    { q.settle t bytes with receive := .idle } = q.leaving t bytes := by
  unfold Port.settle
  rw [h]
  dsimp only
  rw [r.clocked_eq]
  by_cases hc : t.shown = false ∧ bytes ≠ [] <;> by_cases hl : 6 + r.payload.length ≤ bytes.length <;>
    simp [hc, hl, h, Port.leaving, Port.clearShown_eq]

theorem Port.ended_eq {q : Port} {t : Transaction} (h : q.receive = .inTransaction t) (bytes : List Byte) :
    q.ended bytes = q.leaving t bytes := by
  have ended : q.ended bytes = { q.settle t bytes with receive := .idle } := by rw [Port.ended, h]
  rw [ended]
  cases hr : t.chosen with
  | none => exact Port.settle_of_none hr q bytes
  | some r => exact Port.settle_of_some hr q bytes

theorem State.endTransaction_of_outside {s : State} {p : PortId} (h : ∀ t, (s.port p).receive ≠ .inTransaction t)
    (received : List Byte) : s.endTransaction p received = s := by
  rcases ReceiveState.blocked_or_idle h with hr | hr <;> simp only [State.endTransaction, hr]

section
variable {s : State} {p : PortId} {t : Transaction} (h : (s.port p).receive = .inTransaction t) {received : List Byte}
include h

theorem State.endTransaction_of_noRequest (hj : judge (t.incoming ++ received) = .noRequest) :
    s.endTransaction p received = s.setPort p ((s.port p).leaving t (t.incoming ++ received)) := by
  simp only [State.endTransaction, h, hj, Port.ended_eq h]

theorem State.endTransaction_of_malformed (hj : judge (t.incoming ++ received) = .malformed) :
    s.endTransaction p received = s.setPort p { (s.port p).leaving t (t.incoming ++ received) with frameErr := true } := by
  simp only [State.endTransaction, h, hj, Port.ended_eq h]

theorem State.endTransaction_of_valid {f : Frame} (hj : judge (t.incoming ++ received) = .valid f) :
    s.endTransaction p received =
      ((s.beforeFrame p).setPort p
        ((((s.beforeFrame p).port p).leaving t (t.incoming ++ received)).accept f)).reloadTimer p := by
  obtain ⟨u, hu, hstatus, hshown, hchosen⟩ := State.beforeFrame_receive h
  simp only [State.endTransaction, h, hj, State.acceptFrame, Port.ended_eq hu, Port.leaving_congr hstatus hshown hchosen]

end

theorem State.reloadTimer_session (s : State) (p q : PortId) :
    (s.reloadTimer p).session q = if q = p then (s.session q).map Session.reloaded else s.session q := by
  unfold State.reloadTimer
  by_cases h : q = p
  · subst h; cases hs : s.session q <;> simp [hs]
  · cases hs : s.session p <;> simp [h, State.setSession_session_ne]

/-- A port replaced, and the idle timer of its session reloaded (R134, R168). -/
theorem State.setPort_reloadTimer (s : State) (p : PortId) (q : Port) :
    let t := (s.setPort p q).reloadTimer p
    (∀ k, k ≠ p → t.port k = s.port k ∧ t.session k = s.session k) ∧
      t = { s with ports := t.ports, sessions := t.sessions } ∧ t.port p = q ∧
      t.session p = (s.session p).map Session.reloaded := by
  have only := (s.setPort p q).reloadTimer_only p
  have port : ∀ k, ((s.setPort p q).reloadTimer p).port k = (s.setPort p q).port k := fun k => by
    rw [State.port, only]
    rfl
  refine ⟨fun k hk => ⟨?_, ?_⟩, ?_, ?_, ?_⟩
  · rw [port, State.setPort_port_ne s p q hk]
  · rw [State.reloadTimer_session, if_neg hk, State.setPort_session]
  · rw [only]
    rfl
  · rw [port, State.setPort_port_same]
  · rw [State.reloadTimer_session, if_pos rfl, State.setPort_session]

/-- Settles O25: what the bytes are judged decides what the end of the transaction does besides. -/
theorem transactionEndAcceptsOrDiscardsTheFrame : Obligations.TransactionEndAcceptsOrDiscardsTheFrame := by
  intro s p received
  refine ⟨_, rfl, fun h => State.endTransaction_of_outside h received, fun t ht => ?_⟩
  dsimp only
  cases hj : judge (t.incoming ++ received) with
  | noRequest =>
    rw [State.endTransaction_of_noRequest ht hj]
    exact ⟨fun k hk => ⟨State.setPort_port_ne s p _ hk, rfl⟩, rfl, State.setPort_port_same s p _, rfl⟩
  | malformed =>
    rw [State.endTransaction_of_malformed ht hj]
    exact ⟨fun k hk => ⟨State.setPort_port_ne s p _ hk, rfl⟩, rfl, State.setPort_port_same s p _, rfl⟩
  | valid f =>
    rw [State.endTransaction_of_valid ht hj]
    exact (s.beforeFrame p).setPort_reloadTimer p _

end Sys2Proof.Machine

/-! ## A step takes the command at the front of the queue (O1) -/

namespace Sys2Proof.Machine

/-- The command in front is carried out when only those behind it still wait (00_scope 1.5). -/
theorem step_of_pending_cons {s : State} {c : Instr} {rest : List Instr} (h : s.pending = c :: rest) :
    step s = exec c { s with pending := rest } := by
  rw [step, h]

/-- With no command waiting the part is idle (log entry 4). -/
theorem step_of_pending_nil {s : State} (h : s.pending = []) : step s = .next s := by
  rw [step, h]

/-- Settles O1: a queue has a command in front or is empty, and each of the two cases has its equation. -/
theorem stepTakesFrontCommand : Obligations.StepTakesFrontCommand := fun _ =>
  ⟨fun _ _ => step_of_pending_cons, step_of_pending_nil⟩

end Sys2Proof.Machine
